-- ==== Sys2Proof/Word.lean ====
section
/-! DEFINITION. The word type of the JBANG-SEQ block (00_scope.md R8: every data value the block moves is a
32-bit unsigned word). The block does no arithmetic on words (R15), so the type is all that stands here. -/

namespace Sys2Proof

/-- A 32-bit unsigned data word: a command word, an operand, a result, a fault value (R8). -/
abbrev Word := BitVec 32

end Sys2Proof
end

