-- ==== Sys2Proof/Config.lean ====
section
/-! DEFINITION. The implementation parameters of 00_scope.md R7, as the record a machine takes as an argument, and the
model's free values: constants with no body, of which nothing can be proved. The defaults of the parameters stand in
Machine/Params.lean. -/

namespace Sys2Proof

/-- The parameters of R7, one field per row of its table, in its order; then BLOCK_BASE (10_state.md R29) and the op3
sub-codes (R37 (a), 30_encoding.md R92), which R7's table does not list. The protocol constant tables "are immutable
constants, not mutable state" (R37 (a)): the machine holds them, no step writes them. -/
structure Params where
  /-- DAP_IR_LEN -/
  dapIrLen : Nat
  /-- ICEPICK_IR_LEN (must be at least 2, 90_conflicts.md C1) -/
  icepickIrLen : Nat
  /-- ICEPICK_BYPASS where it is set; where it is not, its default follows ICEPICK_IR_LEN (`Params.icepickBypass` in
  Machine/Params.lean) -/
  icepickBypassSet : Option Word
  /-- ICEPICK_CONNECT -/
  icepickConnect : Word
  /-- ICEPICK_ROUTER -/
  icepickRouter : Word
  /-- ICEPICK_IDCODE_IR: R7 says no command uses it, and none does. -/
  icepickIdcodeIr : Word
  /-- DAP_IR_ABORT -/
  dapIrAbort : BitVec 4
  /-- DAP_IR_DPACC -/
  dapIrDpacc : BitVec 4
  /-- DAP_IR_APACC -/
  dapIrApacc : BitVec 4
  /-- DAP_IR_IDCODE -/
  dapIrIdcode : BitVec 4
  /-- ACK_OK -/
  ackOk : BitVec 3
  /-- TAP_IDCODE_MASK -/
  tapIdcodeMask : Word
  /-- TAP_IDCODE_MATCH -/
  tapIdcodeMatch : Word
  /-- CHECK_TAP_IDCODE -/
  checkTapIdcode : Bool
  /-- CONNECT_PATTERN, 8 bits (R96) -/
  connectPattern : BitVec 8
  /-- CONNECT_EXPECT, a nibble (R96) -/
  connectExpect : BitVec 4
  /-- ROUTER_WORDS, in their order (R97) -/
  routerWords : List Word
  /-- ROUTER_WRITE_BIT -/
  routerWriteBit : Word
  /-- ROUTER_RUN_CYCLES -/
  routerRunCycles : Nat
  /-- SETTLE_CYCLES -/
  settleCycles : Nat
  /-- DAP_IDCODE -/
  dapIdcode : Word
  /-- CSW_EXPECT, compared with the 32-bit DP CSW value (90_conflicts.md C3) -/
  cswExpect : Word
  /-- DP_CTRL_POWERUP, OPEN (92_eei_decisions.md D22) -/
  dpCtrlPowerup : Word
  /-- DP_SELECT_VALUE, OPEN (D23) -/
  dpSelectValue : Word
  /-- AP_CSW_VALUE, OPEN (D23) -/
  apCswValue : Word
  /-- DP_ABORT_VALUE -/
  dpAbortValue : Word
  /-- INIT_IDLE_CYCLES: used by the host's boot sequence only (R100, R271, D45); no command reads it. -/
  initIdleCycles : Nat
  /-- BLOCK_BASE, the host address of CMD (R29, 93_implementation_defined.md item 32) -/
  blockBase : Word
  /-- op3 of DP_ABORT; each of the op3 fields is one row of 30_encoding.md R92, "parameters of the opcode table"
  (20_memory.md R55) -/
  op3DpAbort : BitVec 3
  /-- op3 of DP_WRITE_CSW -/
  op3DpWriteCsw : BitVec 3
  /-- op3 of DP_READ_CSW -/
  op3DpReadCsw : BitVec 3
  /-- op3 of DP_WRITE_SELECT -/
  op3DpWriteSelect : BitVec 3
  /-- op3 of DP_NOP -/
  op3DpNop : BitVec 3
  /-- op3 of AP_WRITE_CSW -/
  op3ApWriteCsw : BitVec 3
  /-- op3 of AP_READ_CSW -/
  op3ApReadCsw : BitVec 3
  /-- op3 of AP_WRITE_ADDR -/
  op3ApWriteAddr : BitVec 3
  /-- op3 of AP_READ_ADDR -/
  op3ApReadAddr : BitVec 3
  /-- op3 of AP_WRITE_DATA -/
  op3ApWriteData : BitVec 3
  /-- op3 of AP_READ_DATA -/
  op3ApReadData : BitVec 3
  deriving DecidableEq, Repr

/-- Free value, DESIGN CHOICE (log entry 2): DP_CTRL_POWERUP where nobody has set the parameter. R7 marks it OPEN: "no
default is normative". -/
opaque Config.dpCtrlPowerup : Word

/-- Free value, DESIGN CHOICE (log entry 2): DP_SELECT_VALUE where nobody has set the parameter (R7: OPEN, no suggestion). -/
opaque Config.dpSelectValue : Word

/-- Free value, DESIGN CHOICE (log entry 2): AP_CSW_VALUE where nobody has set the parameter (R7: OPEN). -/
opaque Config.apCswValue : Word

/-- Free value, DESIGN CHOICE (log entry 1): the target's answer to the `k`-th TDO sample that no scheduled answer
covers. R59: "A model treats each TDO sample as a draw". -/
opaque Config.tdoDraw : Nat → Bool

end Sys2Proof
end

