-- ==== Sys2Proof/Machine/Params.lean ====
section
/-! DEFINITION. The default values of the parameters (00_scope.md R7) and the range R7 gives them. -/

namespace Sys2Proof

/-- op3 of an access to the register at A[3:2] (30_encoding.md R91): A[3:2] in bits [2:1], RnW in bit 0. -/
def op3Of (a32 : BitVec 2) (rnw : Bool) : BitVec 3 := a32 ++ BitVec.ofBool rnw

/-- The defaults of R7's table. Its three OPEN parameters have no normative default: each is a free value of Config.
ICEPICK_BYPASS is not set, so it is what `Params.icepickBypass` makes of ICEPICK_IR_LEN. DESIGN CHOICE (log entry 11):
BLOCK_BASE, to which the spec gives no default, is 0. The op3 sub-codes are R92's, by the register addresses of
20_memory.md R55 and R57: CTRL/STAT and TAR at A[3:2] = 01, SELECT at 10, RDBUFF and DRW at 11, AP CSW at 00. -/
def Params.defaults : Params where
  dapIrLen := 4
  icepickIrLen := 6
  icepickBypassSet := none
  icepickConnect := 0x07
  icepickRouter := 0x02
  icepickIdcodeIr := 0x04
  dapIrAbort := 0b1000
  dapIrDpacc := 0b1010
  dapIrApacc := 0b1011
  dapIrIdcode := 0b1110
  ackOk := 0b010
  tapIdcodeMask := 0x0FFFFFFF
  tapIdcodeMatch := 0x0B94402F
  checkTapIdcode := true
  connectPattern := 0x89
  connectExpect := 0b1001
  routerWords := [0x60002000, 0x2C002100]
  routerWriteBit := 0x80000000
  routerRunCycles := 10
  settleCycles := 10
  dapIdcode := 0x3BA00477
  cswExpect := 0xF0000000
  dpCtrlPowerup := Config.dpCtrlPowerup
  dpSelectValue := Config.dpSelectValue
  apCswValue := Config.apCswValue
  dpAbortValue := 0x00000001
  initIdleCycles := 10
  blockBase := 0
  op3DpAbort := op3Of 0b00 false
  op3DpWriteCsw := op3Of 0b01 false
  op3DpReadCsw := op3Of 0b01 true
  op3DpWriteSelect := op3Of 0b10 false
  op3DpNop := op3Of 0b11 true
  op3ApWriteCsw := op3Of 0b00 false
  op3ApReadCsw := op3Of 0b00 true
  op3ApWriteAddr := op3Of 0b01 false
  op3ApReadAddr := op3Of 0b01 true
  op3ApWriteData := op3Of 0b11 false
  op3ApReadData := op3Of 0b11 true

/-- ICEPICK_BYPASS: the value it is set to, else its default, "all ones of ICEPICK_IR_LEN bits" (R7,
41_icepick_bringup.md R164). -/
def Params.icepickBypass (p : Params) : Word := p.icepickBypassSet.getD (BitVec.ofNat 32 (2 ^ p.icepickIrLen - 1))

/-- The parameter values the spec allows: R7 "ICEPICK_IR_LEN … must be ≥ 2", and an IR scan of
DAP_IR_LEN + ICEPICK_IR_LEN bits is one SHIFT, whose length R8 bounds by 32 (log entry 3). -/
def Params.inRange (p : Params) : Bool :=
  decide (2 ≤ p.icepickIrLen) && decide (p.dapIrLen + p.icepickIrLen ≤ 32)

/-- The DAP IR codes SELECT_IR and TRANSACT accept (30_encoding.md R82 check 3). -/
def Params.isAccessIr (p : Params) (code : BitVec 4) : Bool :=
  code == p.dapIrAbort || code == p.dapIrDpacc || code == p.dapIrApacc

end Sys2Proof
end

