-- ==== Sys2Proof/Syntax.lean ====
section
/-! DEFINITION. The commands of the block: one constructor per row of spec/opcode_table.json, with the operand fields its
row uses (30_encoding.md R80, R88). Operands that a command takes from ARG0 and ARG1 are no field of it: they are the
latched copies a0 and a1 of the state (R32, R81). -/

namespace Sys2Proof

/-- A command (R88). `nbits` is the 6-bit NBITS field, `irCode` the 4-bit IRCODE field, `op3` the 3-bit OP3 field and
`last` the LAST bit, each taken unchanged (R81). -/
inductive Instr where
  /-- RESET, OPC 0x01 (R123) -/
  | reset
  /-- COMMIT, OPC 0x02 (R124) -/
  | commit
  /-- RUN_IDLE, OPC 0x03; a0 = cycles (R126) -/
  | runIdle
  /-- ENTER_IR, OPC 0x04 (R128) -/
  | enterIr
  /-- ENTER_DR, OPC 0x05 (R129) -/
  | enterDr
  /-- SHIFT, OPC 0x06; a0 = outBits (R130) -/
  | shift (nbits : BitVec 6) (last : Bool)
  /-- SCAN_IR, OPC 0x07; a0 = outBits (R131) -/
  | scanIr (nbits : BitVec 6)
  /-- SCAN_DR, OPC 0x08; a0 = outBits (R132) -/
  | scanDr (nbits : BitVec 6)
  /-- SELECT_IR, OPC 0x09 (R180) -/
  | selectIr (irCode : BitVec 4)
  /-- TRANSACT, OPC 0x0A; a0 = arg32 (R181) -/
  | transact (irCode : BitVec 4) (op3 : BitVec 3)
  /-- DP_ABORT, OPC 0x0B (R185) -/
  | dpAbort
  /-- DP_WRITE_CSW, OPC 0x0C; a0 = value (R186) -/
  | dpWriteCsw
  /-- DP_READ_CSW, OPC 0x0D (R187) -/
  | dpReadCsw
  /-- DP_WRITE_SELECT, OPC 0x0E; a0 = value (R188) -/
  | dpWriteSelect
  /-- DP_NOP, OPC 0x0F (R189) -/
  | dpNop
  /-- AP_WRITE_CSW, OPC 0x10; a0 = value (R190) -/
  | apWriteCsw
  /-- AP_READ_CSW, OPC 0x11 (R191) -/
  | apReadCsw
  /-- AP_WRITE_ADDR, OPC 0x12; a0 = address (R192) -/
  | apWriteAddr
  /-- AP_READ_ADDR, OPC 0x13 (R193) -/
  | apReadAddr
  /-- AP_WRITE_DATA, OPC 0x14; a0 = data (R194) -/
  | apWriteData
  /-- AP_READ_DATA, OPC 0x15 (R195) -/
  | apReadData
  /-- CHECKED_READ, OPC 0x16 (R197) -/
  | checkedRead
  /-- ICEPICK_BRINGUP, OPC 0x17 (R160) -/
  | icepickBringup
  /-- DAP_INIT, OPC 0x18 (R198) -/
  | dapInit
  /-- AP_READ, OPC 0x19; a0 = addr (R230) -/
  | apRead
  /-- AP_WRITE, OPC 0x1A; a0 = addr, a1 = value (R232) -/
  | apWrite
  deriving DecidableEq, Repr

end Sys2Proof
end

