-- ==== Sys2Proof/Decode.lean ====
section
/-! DEFINITION. The command decoder and encoder (30_encoding.md R80 to R89). A command is one 32-bit word written to CMD;
the decoder is total on every word and rejects by name. Its rejections are check 1 of R82; checks 2 and 3 are on the
operands of a recognised command (Machine/Operands.lean). -/

namespace Sys2Proof

/-- Why a word is no command (R82 check 1, R89): both reasons raise ILLEGAL_COMMAND. -/
inductive DecodeError where
  /-- one of bits [31:19] is set -/
  | reservedBitSet
  /-- OPC is 0x00 or 0x1B to 0x1F -/
  | reservedOpcode
  deriving DecidableEq, Repr

/-- OPC, bits [4:0] (R80). -/
def opcField (w : Word) : BitVec 5 := w.extractLsb' 0 5

/-- NBITS, bits [10:5] (R80). -/
def nbitsField (w : Word) : BitVec 6 := w.extractLsb' 5 6

/-- IRCODE, bits [14:11] (R80). -/
def irCodeField (w : Word) : BitVec 4 := w.extractLsb' 11 4

/-- OP3, bits [17:15] (R80). -/
def op3Field (w : Word) : BitVec 3 := w.extractLsb' 15 3

/-- LAST, bit [18] (R80). -/
def lastField (w : Word) : Bool := w.getLsbD 18

/-- RSV, bits [31:19], must be zero (R80). -/
def rsvField (w : Word) : BitVec 13 := w.extractLsb' 19 13

/-- The opcode map of R88 on a word whose reserved bits are zero. -/
def decodeOpcode (w : Word) : Except DecodeError Instr :=
  match (opcField w).toNat with
  | 0x01 => .ok .reset
  | 0x02 => .ok .commit
  | 0x03 => .ok .runIdle
  | 0x04 => .ok .enterIr
  | 0x05 => .ok .enterDr
  | 0x06 => .ok (.shift (nbitsField w) (lastField w))
  | 0x07 => .ok (.scanIr (nbitsField w))
  | 0x08 => .ok (.scanDr (nbitsField w))
  | 0x09 => .ok (.selectIr (irCodeField w))
  | 0x0A => .ok (.transact (irCodeField w) (op3Field w))
  | 0x0B => .ok .dpAbort
  | 0x0C => .ok .dpWriteCsw
  | 0x0D => .ok .dpReadCsw
  | 0x0E => .ok .dpWriteSelect
  | 0x0F => .ok .dpNop
  | 0x10 => .ok .apWriteCsw
  | 0x11 => .ok .apReadCsw
  | 0x12 => .ok .apWriteAddr
  | 0x13 => .ok .apReadAddr
  | 0x14 => .ok .apWriteData
  | 0x15 => .ok .apReadData
  | 0x16 => .ok .checkedRead
  | 0x17 => .ok .icepickBringup
  | 0x18 => .ok .dapInit
  | 0x19 => .ok .apRead
  | 0x1A => .ok .apWrite
  | _ => .error .reservedOpcode

/-- The command a word written to CMD stands for (R82 check 1, R88, R89). Fields the command does not use are ignored
(R81). -/
def decode (w : Word) : Except DecodeError Instr :=
  if rsvField w = 0 then decodeOpcode w else .error .reservedBitSet

/-- A field of a 32-bit word: the value with its bit 0 at bit `lo`, zeros elsewhere (00_scope.md R9). -/
def placed {n : Nat} (v : BitVec n) (lo : Nat) : Word := v.setWidth 32 <<< lo

/-- A command word from its fields (R80). -/
def commandWord (opc : BitVec 5) (nbits : BitVec 6) (irCode : BitVec 4) (op3 : BitVec 3) (last : Bool) : Word :=
  placed opc 0 ||| placed nbits 5 ||| placed irCode 11 ||| placed op3 15 ||| placed (BitVec.ofBool last) 18

/-- The command word of a command, with every field it does not use zero (R80, R88). -/
def encode : Instr → Word
  | .reset => commandWord 0x01 0 0 0 false
  | .commit => commandWord 0x02 0 0 0 false
  | .runIdle => commandWord 0x03 0 0 0 false
  | .enterIr => commandWord 0x04 0 0 0 false
  | .enterDr => commandWord 0x05 0 0 0 false
  | .shift nbits last => commandWord 0x06 nbits 0 0 last
  | .scanIr nbits => commandWord 0x07 nbits 0 0 false
  | .scanDr nbits => commandWord 0x08 nbits 0 0 false
  | .selectIr irCode => commandWord 0x09 0 irCode 0 false
  | .transact irCode op3 => commandWord 0x0A 0 irCode op3 false
  | .dpAbort => commandWord 0x0B 0 0 0 false
  | .dpWriteCsw => commandWord 0x0C 0 0 0 false
  | .dpReadCsw => commandWord 0x0D 0 0 0 false
  | .dpWriteSelect => commandWord 0x0E 0 0 0 false
  | .dpNop => commandWord 0x0F 0 0 0 false
  | .apWriteCsw => commandWord 0x10 0 0 0 false
  | .apReadCsw => commandWord 0x11 0 0 0 false
  | .apWriteAddr => commandWord 0x12 0 0 0 false
  | .apReadAddr => commandWord 0x13 0 0 0 false
  | .apWriteData => commandWord 0x14 0 0 0 false
  | .apReadData => commandWord 0x15 0 0 0 false
  | .checkedRead => commandWord 0x16 0 0 0 false
  | .icepickBringup => commandWord 0x17 0 0 0 false
  | .dapInit => commandWord 0x18 0 0 0 false
  | .apRead => commandWord 0x19 0 0 0 false
  | .apWrite => commandWord 0x1A 0 0 0 false

/-- The bits of a command word that decide what the command does: OPC and RSV (the mask 0xFFF8001F of R88), and the
operand fields its row of R88 uses. -/
def Instr.usedBits : Instr → Word
  | .reset => 0xFFF8001F
  | .commit => 0xFFF8001F
  | .runIdle => 0xFFF8001F
  | .enterIr => 0xFFF8001F
  | .enterDr => 0xFFF8001F
  | .shift _ _ => 0xFFFC07FF
  | .scanIr _ => 0xFFF807FF
  | .scanDr _ => 0xFFF807FF
  | .selectIr _ => 0xFFF8781F
  | .transact _ _ => 0xFFFBF81F
  | .dpAbort => 0xFFF8001F
  | .dpWriteCsw => 0xFFF8001F
  | .dpReadCsw => 0xFFF8001F
  | .dpWriteSelect => 0xFFF8001F
  | .dpNop => 0xFFF8001F
  | .apWriteCsw => 0xFFF8001F
  | .apReadCsw => 0xFFF8001F
  | .apWriteAddr => 0xFFF8001F
  | .apReadAddr => 0xFFF8001F
  | .apWriteData => 0xFFF8001F
  | .apReadData => 0xFFF8001F
  | .checkedRead => 0xFFF8001F
  | .icepickBringup => 0xFFF8001F
  | .dapInit => 0xFFF8001F
  | .apRead => 0xFFF8001F
  | .apWrite => 0xFFF8001F

/-- The command of an opcode-table word: `w` is the command word's bits, of which the table gives `nbits`; every bit above
them is zero. A command is one 32-bit word, so a number that does not fit one is none. -/
def decodeTableWord (nbits w : Nat) : Option Instr :=
  let v := w % 2 ^ nbits
  if v < 2 ^ 32 then (decode (BitVec.ofNat 32 v)).toOption else none

end Sys2Proof
end

