-- ==== Sys2Proof/Machine/State.lean ====
section
/-! DEFINITION. The state of the block as plain data (10_state.md), the faults its commands raise, the reasons a step of
the model stops, and the state right after block reset (R38). -/

namespace Sys2Proof.Machine

/-- The block's record of the target TAP's macro-state (R23). -/
inductive TapState where
  | reset
  | idle
  | shifting
  deriving DecidableEq, Repr

/-- Whether an open scan takes more bits or its last bit has been clocked with TMS 1 (R24). -/
inductive ShiftPhase where
  | shift
  | exit1
  deriving DecidableEq, Repr

/-- The content of the 8-bit fault code register by name; Machine/Flags.lean gives the numbers. "Codes 0x0C to 0xFF are
never produced" (60_exceptions.md R241). -/
inductive FaultCode where
  | none
  | tapIdcodeMismatch
  | connectMismatch
  | routerReadbackMismatch
  | dapIdcodeMismatch
  | ackMismatch
  | cswStatusMismatch
  | shiftNotShifting
  | shiftAfterLast
  | badIrCode
  | illegalCommand
  | nbitsRange
  deriving DecidableEq, Repr

/-- The four output pins (R35). -/
inductive Pin where
  | trst
  | tck
  | tms
  | tdi
  deriving DecidableEq, Repr

/-- What the block does at its pins, one entry per primitive of 00_scope.md R11. -/
inductive PinEvent where
  /-- the Pin Provider's initialise request (R120) -/
  | pinInit
  /-- `SetPin(p, v)` -/
  | drive (p : Pin) (level : Bool)
  /-- `GetTDO()` and the level it returned -/
  | sample (level : Bool)
  /-- block reset put the four output latches at their reset levels (R270) -/
  | latchReset
  deriving DecidableEq, Repr

/-- The width of a host access: only whole 32-bit accesses are defined (R29). -/
inductive AccessSize where
  | byte
  | half
  | word
  deriving DecidableEq, Repr

/-- One access of the host on the bus the block sits on, at a byte address (R29). -/
inductive Access where
  | write (size : AccessSize) (address : Word) (value : Word)
  | read (size : AccessSize) (address : Word)
  deriving DecidableEq, Repr

/-- What reaches the block from outside: a host access, or the reset input `rst` (R270). -/
inductive HostAct where
  | access (a : Access)
  | rst
  deriving DecidableEq, Repr

/-- When a host event arrives: after the host has seen the block not busy, or a number of landing points (see
`hostSlot` in Machine/Ops.lean) after the event before it, whatever the block is doing then. -/
inductive Timing where
  | whenIdle
  | after (slots : Nat)
  deriving DecidableEq, Repr

/-- One entry of the host's schedule. -/
structure HostEvent where
  timing : Timing
  act : HostAct
  deriving DecidableEq, Repr

/-- Why a command stopped before its end. -/
inductive Stop where
  /-- it raised a fault, which the state holds (R243) -/
  | faulted
  /-- block reset abandoned it (R270) -/
  | abandoned
  deriving DecidableEq, Repr

/-- Why a step of the MODEL stops. A fault of the BLOCK is none of these: it is a next state with the fault latch set
(R243). -/
inductive Fault where
  /-- Raised by `step` alone, for a machine whose parameters are outside the range R7 and R8 give them ("must be ≥ 2"): no
  such block exists. Safe: the model says nothing of it. -/
  | parametersOutOfRange
  deriving DecidableEq, Repr

/-- Why the model gives an instruction no meaning. -/
inductive Refusal where
  /-- Raised by `exec` for a command that has no meaning in this model; no command of this model is. Safe: the model says
  nothing of it. -/
  | notModelled (mnemonic : String)
  deriving DecidableEq, Repr

/-- The machine: the block's state (R20, R38), then three things that are not block state, the parameters it was built
with, the world outside it, and the record of what it did there. -/
@[ext]
structure State where
  /-- R23 -/
  tapState : TapState
  /-- R24 -/
  shiftPhase : ShiftPhase
  /-- R26 -/
  irValid : Bool
  /-- R26 -/
  irCache : BitVec 4
  /-- R27 -/
  fault : Bool
  /-- R27, 8 bits -/
  faultCode : FaultCode
  /-- R27; the host reads it at FAULTVAL (R34) -/
  faultValue : Word
  /-- R28 -/
  busy : Bool
  /-- R28 -/
  overrun : Bool
  /-- R28 -/
  pinInitDone : Bool
  /-- R32 -/
  arg0 : Word
  /-- R32 -/
  arg1 : Word
  /-- R33 -/
  result : Word
  /-- the running command's copy of ARG0 (R32) -/
  a0 : Word
  /-- the running command's copy of ARG1 (R32) -/
  a1 : Word
  /-- R36 -/
  pinTrst : Bool
  /-- R36 -/
  pinTck : Bool
  /-- R36 -/
  pinTms : Bool
  /-- R36 -/
  pinTdi : Bool
  /-- The implementation parameters of R7, which R37 (a) says are no block state: no step writes them. -/
  params : Params
  /-- The model's: what the host will still do, in order (R6 agent 1). -/
  host : List HostEvent
  /-- The model's: the target's scheduled answers to the next TDO samples (R59). -/
  tdo : List Bool
  /-- The model's: how many samples found no scheduled answer and took a free value. -/
  draws : Nat
  /-- The model's: every pin event so far, newest first. -/
  trace : List PinEvent
  /-- The model's: the data returned to host reads so far, newest first. -/
  responses : List Word
  deriving DecidableEq, Repr

/-- The machine right after block reset (R38, R270): "Nothing is unspecified." The parameters are the defaults of R7, the
host has scheduled nothing, and no TDO answer is scheduled, so every sample is a draw. -/
def State.reset : State where
  tapState := .reset
  shiftPhase := .shift
  irValid := false
  irCache := 0b0000
  fault := false
  faultCode := .none
  faultValue := 0
  busy := false
  overrun := false
  pinInitDone := false
  arg0 := 0
  arg1 := 0
  result := 0
  a0 := 0
  a1 := 0
  pinTrst := true
  pinTck := false
  pinTms := true
  pinTdi := false
  params := Params.defaults
  host := []
  tdo := []
  draws := 0
  trace := []
  responses := []

end Sys2Proof.Machine
end

