-- ==== Sys2Proof/Machine/Flags.lean ====
section
/-! DEFINITION. The numbers behind the named states, and the STATUS word, which is hardwired to the state it shows
(10_state.md R23, R24, R31; 60_exceptions.md R241). The block has no arithmetic flags (R12, R15). -/

namespace Sys2Proof.Machine

/-- STATUS.TAP_STATE: RESET = 0b00, IDLE = 0b01, SHIFTING = 0b10 (R23). -/
def TapState.bits : TapState → BitVec 2
  | .reset => 0b00
  | .idle => 0b01
  | .shifting => 0b10

/-- STATUS.SHIFT_PHASE: SHIFT = 0, EXIT1 = 1 (R24). -/
def ShiftPhase.bits : ShiftPhase → BitVec 1
  | .shift => 0
  | .exit1 => 1

/-- The 8-bit fault codes of R241's table. -/
def FaultCode.bits : FaultCode → BitVec 8
  | .none => 0x00
  | .tapIdcodeMismatch => 0x01
  | .connectMismatch => 0x02
  | .routerReadbackMismatch => 0x03
  | .dapIdcodeMismatch => 0x04
  | .ackMismatch => 0x05
  | .cswStatusMismatch => 0x06
  | .shiftNotShifting => 0x07
  | .shiftAfterLast => 0x08
  | .badIrCode => 0x09
  | .illegalCommand => 0x0A
  | .nbitsRange => 0x0B

/-- The STATUS register, field by field as R31's table lists them; bits [15:12] and [31:24] are reserved and read 0.
IR_CACHE shows `irCache` even when it is stale (R26). -/
def State.statusWord (s : State) : Word :=
  placed (BitVec.ofBool s.busy) 0 ||| placed (BitVec.ofBool s.fault) 1 ||| placed (BitVec.ofBool s.overrun) 2 |||
    placed (BitVec.ofBool s.pinInitDone) 3 ||| placed s.tapState.bits 4 ||| placed s.shiftPhase.bits 6 |||
    placed (BitVec.ofBool s.irValid) 7 ||| placed s.irCache 8 ||| placed s.faultCode.bits 16

end Sys2Proof.Machine
end

