-- ==== Sys2Proof/WellFormed.lean ====
section
/-! DEFINITION. Which commands have operands in range: checks 2 and 3 of 30_encoding.md R82. A command word that fails one
is still that row's command (its match and mask say nothing of NBITS or IRCODE), and its meaning takes the fault R82
names; Machine/Operands.lean says which. -/

namespace Sys2Proof

/-- NBITS is valid from 0 to 32 (R80), and IRCODE must name ABORT, DPACC or APACC (R82); other commands have no operand
field, and every field they do not use is ignored (R81). -/
def Instr.wellFormed (p : Params) : Instr → Bool
  | .shift nbits _ => decide (nbits.toNat ≤ 32)
  | .scanIr nbits => decide (nbits.toNat ≤ 32)
  | .scanDr nbits => decide (nbits.toNat ≤ 32)
  | .selectIr irCode => p.isAccessIr irCode
  | .transact irCode _ => p.isAccessIr irCode
  | .reset => true
  | .commit => true
  | .runIdle => true
  | .enterIr => true
  | .enterDr => true
  | .dpAbort => true
  | .dpWriteCsw => true
  | .dpReadCsw => true
  | .dpWriteSelect => true
  | .dpNop => true
  | .apWriteCsw => true
  | .apReadCsw => true
  | .apWriteAddr => true
  | .apReadAddr => true
  | .apWriteData => true
  | .apReadData => true
  | .checkedRead => true
  | .icepickBringup => true
  | .dapInit => true
  | .apRead => true
  | .apWrite => true

end Sys2Proof
end

