-- ==== Sys2Proof/Machine/Operands.lean ====
section
/-! DEFINITION. The values commands are made of: the operand checks of the decode step (30_encoding.md R82), the fields a
serial capture is assembled from and compared by (00_scope.md R15), and the words the block shifts to the target
(30_encoding.md R92 to R97). -/

namespace Sys2Proof.Machine

/-- Checks 2 and 3 of R82 on a recognised command: the fault they raise, with the value it records, or nothing. -/
def operandFault (p : Params) : Instr → Option (FaultCode × Word)
  | .shift nbits _ => if nbits.toNat ≤ 32 then none else some (.nbitsRange, nbits.setWidth 32)
  | .scanIr nbits => if nbits.toNat ≤ 32 then none else some (.nbitsRange, nbits.setWidth 32)
  | .scanDr nbits => if nbits.toNat ≤ 32 then none else some (.nbitsRange, nbits.setWidth 32)
  | .selectIr irCode => if p.isAccessIr irCode then none else some (.badIrCode, irCode.setWidth 32)
  | .transact irCode _ => if p.isAccessIr irCode then none else some (.badIrCode, irCode.setWidth 32)
  | .reset => none
  | .commit => none
  | .runIdle => none
  | .enterIr => none
  | .enterDr => none
  | .dpAbort => none
  | .dpWriteCsw => none
  | .dpReadCsw => none
  | .dpWriteSelect => none
  | .dpNop => none
  | .apWriteCsw => none
  | .apReadCsw => none
  | .apWriteAddr => none
  | .apReadAddr => none
  | .apWriteData => none
  | .apReadData => none
  | .checkedRead => none
  | .icepickBringup => none
  | .dapInit => none
  | .apRead => none
  | .apWrite => none

/-- A serial capture: the first sample is bit 0, the next bit 1, and every bit past the last sample is 0 (R10, R15). -/
def assemble : List Bool → Word
  | [] => 0
  | b :: bs => (assemble bs <<< 1) ||| BitVec.setWidth 32 (BitVec.ofBool b)

/-- The address byte of a router word, bits [31:24] (R97). -/
def routerAddress (w : Word) : BitVec 8 := w.extractLsb' 24 8

/-- What the write scan of a router word shifts: the word with its write bit set (R97, R163). -/
def routerWrite (p : Params) (w : Word) : Word := w ||| p.routerWriteBit

/-- What the read-back scan of a router word shifts: its register address, with the write bit 0 (R163). -/
def routerRequest (w : Word) : Word := w &&& 0x7F000000

/-- The low nibble of the connect read-back (R96, R162). -/
def connectKey (rb : Word) : BitVec 4 := rb.extractLsb' 0 4

/-- The length of the IR chain after bring-up (20_memory.md R52). -/
def irChainBits (p : Params) : Nat := p.dapIrLen + p.icepickIrLen

/-- What an IR scan of the linked chain shifts: the DAP code in the low bits, the ICEPick bypass code above it (R94). -/
def irChainWord (p : Params) (code : BitVec 4) : Word := (p.icepickBypass <<< p.dapIrLen) ||| code.setWidth 32

end Sys2Proof.Machine
end

