-- ==== Sys2Proof/Machine/Ops.lean ====
section
/-! DEFINITION. The operations every command is made of: the pins and the pulse (40_tap_sequencer.md R121), the host's
access to the registers (10_state.md R29 to R34), taking a fault and the one way back from it (60_exceptions.md R243,
R245), the procedures of 40_tap_sequencer.md and 42_dap_engine.md that commands share, and the command cycle (R120). -/

namespace Sys2Proof.Machine

/-- A procedure of the spec's pseudocode: it runs on the state and either goes on with a value or stops the command. -/
abbrev Proc (α : Type) := EStateM Stop State α

/-- The parameters the block was built with (00_scope.md R7). -/
def config : Proc Params := do
  let s ← get
  return s.params

/-! ## Faults and block reset -/

/-- Taking a fault (R243): the latch, its code and the offending value; the block is no longer busy. Everything else
keeps "the values the completed steps gave them". -/
def takeFault (code : FaultCode) (value : Word) (s : State) : State :=
  { s with fault := true, faultCode := code, faultValue := value, busy := false }

/-- `raise Fault(code, value)` (R243): nothing of the command happens after it. -/
def raise (code : FaultCode) (value : Word) : Proc Unit :=
  fun s => .error .faulted (takeFault code value s)

/-- A verification step of the pseudocode: go on where it holds, raise the fault where it does not. -/
def verify (holds : Bool) (code : FaultCode) (value : Word) : Proc Unit :=
  if holds then pure () else raise code value

/-- Block reset (70_reset_and_hazards.md R270), which is also the only return from a fault (R245): every piece of block
state takes its value of R38. The parameters, the world outside and the record of past events are no block state. No
pulse is emitted; the trace records that the latches were put at their reset levels. -/
def blockReset (s : State) : State :=
  { State.reset with
    params := s.params
    host := s.host
    tdo := s.tdo
    draws := s.draws
    trace := .latchReset :: s.trace
    responses := s.responses }

/-! ## The host's register window -/

/-- The byte offset of a host address from the block's base (R29). The spec gives the window no end, so every address has
an offset in it (log entry 11). -/
def State.offsetOf (s : State) (address : Word) : Word := address - s.params.blockBase

/-- The value a read of the register at a byte offset returns (R29, R31 to R34). CMD and the offsets from 0x18 on read
as 0. -/
def readRegister (offset : Word) (s : State) : Word :=
  if offset = 0x04 then s.arg0
  else if offset = 0x08 then s.arg1
  else if offset = 0x0C then s.result
  else if offset = 0x10 then s.statusWord
  else if offset = 0x14 then s.faultValue
  else 0

/-- A write that issues no command (R29, R30): ARG0 and ARG1 take the value; a CMD write while busy is lost and sets
OVERRUN; a CMD write while faulted, and a write to any other offset, changes nothing. -/
def writeRegister (offset value : Word) (s : State) : State :=
  if offset = 0x04 then { s with arg0 := value }
  else if offset = 0x08 then { s with arg1 := value }
  else if offset = 0x00 ∧ s.busy then { s with overrun := true }
  else s

/-- Only whole 32-bit accesses to a register are defined (R29). -/
def wholeAccess (size : AccessSize) (offset : Word) : Bool :=
  size == .word && offset.extractLsb' 0 2 == 0

/-- A host access that issues no command. One that is no whole 32-bit access is ignored: it has no effect and returns no
data (93_implementation_defined.md item 19; log entry 5). -/
def hostAccess (a : Access) (s : State) : State :=
  match a with
  | .write size address value =>
    if wholeAccess size (s.offsetOf address) then writeRegister (s.offsetOf address) value s else s
  | .read size address =>
    if wholeAccess size (s.offsetOf address) then
      { s with responses := readRegister (s.offsetOf address) s :: s.responses }
    else s

/-- The host events that are due at a landing point take effect in order: an access while the command runs (R30, R32), or
block reset, which abandons the command (R253, R270). -/
def landEvents : List HostEvent → State → EStateM.Result Stop State Unit
  | [], s => .ok () { s with host := [] }
  | e :: es, s =>
    match e.timing, e.act with
    | .whenIdle, _ => .ok () { s with host := e :: es }
    | .after (n + 1), _ => .ok () { s with host := { e with timing := .after n } :: es }
    | .after 0, .access a => landEvents es (hostAccess a s)
    | .after 0, .rst => .error .abandoned (blockReset { s with host := es })

/-- A landing point, where host events can arrive inside a command: after its acceptance, before each pulse, before each
TRST event, and before it completes (R253: "an arbitrary pulse boundary"; log entry 4). -/
def hostSlot : Proc Unit := fun s => landEvents s.host s

/-! ## Pins -/

/-- The state with an output latch at a level and the pin event recorded (R36). -/
def State.drive (p : Pin) (level : Bool) (s : State) : State :=
  match p with
  | .trst => { s with pinTrst := level, trace := .drive .trst level :: s.trace }
  | .tck => { s with pinTck := level, trace := .drive .tck level :: s.trace }
  | .tms => { s with pinTms := level, trace := .drive .tms level :: s.trace }
  | .tdi => { s with pinTdi := level, trace := .drive .tdi level :: s.trace }

/-- `SetPin(p, v)` (R11): "a strict overwrite of pin level". -/
def setPin (p : Pin) (level : Bool) : Proc Unit := modify (State.drive p level)

/-- The TDO level the next sample reads: the target's next scheduled answer, or a draw (R59). -/
def State.nextTdo (s : State) : Bool :=
  match s.tdo with
  | [] => Config.tdoDraw s.draws
  | b :: _ => b

/-- The state once that sample is taken. -/
def State.sampled (s : State) : State :=
  { s with
    tdo := s.tdo.tail
    draws := if s.tdo.isEmpty then s.draws + 1 else s.draws
    trace := .sample s.nextTdo :: s.trace }

/-- `GetTDO()` (R11). -/
def getTdo : Proc Bool := fun s => .ok s.nextTdo s.sampled

/-- `Pulse(tms, tdi)` (R121), after a landing point. -/
def pulse (tms tdi : Bool) : Proc Bool := do
  hostSlot
  setPin .tms tms
  setPin .tdi tdi
  setPin .tck true
  let b ← getTdo
  setPin .tck false
  return b

/-- One pulse for each TMS level, with TDI 0 (R121: "On every pulse that is not a SHIFT data bit, TDI is driven 0"). -/
def walk : List Bool → Proc Unit
  | [] => pure ()
  | tms :: rest => do
    let _ ← pulse tms false
    walk rest

/-! ## TAP Sequencer procedures -/

/-- `tap_state` and `shift_phase` as a procedure leaves them. -/
def State.inTap (t : TapState) (ph : ShiftPhase) (s : State) : State := { s with tapState := t, shiftPhase := ph }

/-- The IR cache invalidated (10_state.md R26). -/
def State.forgetIr (s : State) : State := { s with irValid := false }

/-- The IR cache holding a code (R26). -/
def State.cacheIr (code : BitVec 4) (s : State) : State := { s with irCache := code, irValid := true }

/-- `Reset()` (R123). -/
def tapReset : Proc Unit := do
  hostSlot
  setPin .trst false
  hostSlot
  setPin .trst true
  walk [true, true, true, true, true]
  modify fun s => (s.inTap .reset .shift).forgetIr

/-- The TMS pattern by which Commit leaves the state (R124). -/
def commitTms (t : TapState) (ph : ShiftPhase) : List Bool :=
  match t, ph with
  | .idle, _ => []
  | .reset, _ => [false]
  | .shifting, .exit1 => [true, false]
  | .shifting, .shift => [true, true, false]

/-- `Commit()` (R124). -/
def commit : Proc Unit := do
  let s ← get
  walk (commitTms s.tapState s.shiftPhase)
  modify (State.inTap .idle .shift)

/-- `RunIdle(cycles)` (R126). -/
def runIdle (cycles : Nat) : Proc Unit := do
  commit
  walk (List.replicate cycles false)

/-- Which scan register an Enter walks to (R127). The block does not record it (R23, R37). -/
inductive ScanKind where
  | ir
  | dr
  deriving DecidableEq, Repr

/-- The TMS pattern from Run-Test/Idle to Shift-IR or Shift-DR (R127). -/
def enterTms : ScanKind → List Bool
  | .ir => [true, true, false, false]
  | .dr => [true, false, false]

/-- `Enter(kind)` (R127): every IR entry invalidates the IR cache. -/
def enter (kind : ScanKind) : Proc Unit := do
  commit
  walk (enterTms kind)
  modify fun s => match kind with
    | .ir => (s.inTap .shifting .shift).forgetIr
    | .dr => s.inTap .shifting .shift

/-- The data pulses of Shift (R130): `k` pulses from bit `i` of `out` on, TMS 1 on the last of them where `last` says so;
the TDO samples in order. -/
def shiftBits (out : Word) (last : Bool) : (k i : Nat) → Proc (List Bool)
  | 0, _ => pure []
  | k + 1, i => do
    let b ← pulse (last && k == 0) (out.getLsbD i)
    let bs ← shiftBits out last k (i + 1)
    return b :: bs

/-- Shift's last write: a SHIFT with LAST = 1 and NBITS ≥ 1 leaves the phase EXIT1 (R24, R130). -/
def State.endShift (n : Nat) (last : Bool) (s : State) : State :=
  if last && n != 0 then { s with shiftPhase := .exit1 } else s

/-- `Shift(n, out, l)` (R130). -/
def shift (n : Nat) (out : Word) (last : Bool) : Proc Word := do
  let s ← get
  verify (s.tapState == .shifting) .shiftNotShifting (s.tapState.bits.setWidth 32)
  verify (s.shiftPhase == .shift) .shiftAfterLast 0
  let bs ← shiftBits out last n 0
  modify (State.endShift n last)
  return assemble bs

/-- `ScanIR(n, out)` and `ScanDR(n, out)` (R131, R132). -/
def scan (kind : ScanKind) (n : Nat) (out : Word) : Proc Word := do
  enter kind
  let r ← shift n out true
  commit
  return r

/-! ## DAP engine procedures -/

/-- `SelectIR(code)` (R180): no pin event where the cache already holds the code. -/
def selectIr (code : BitVec 4) : Proc Unit := do
  let s ← get
  if s.irValid && s.irCache == code then pure ()
  else do
    let _ ← scan .ir (irChainBits s.params) (irChainWord s.params code)
    modify (State.cacheIr code)

/-- `Transact(irCode, op3, arg32)` (R181). The ack is checked after step 3 and before step 4. -/
def transact (code : BitVec 4) (op3 : BitVec 3) (arg : Word) : Proc Word := do
  let p ← config
  selectIr code
  enter .dr
  let ack ← shift 3 (op3.setWidth 32) false
  verify (ack == p.ackOk.setWidth 32) .ackMismatch ack
  let result ← shift 32 arg false
  let _ ← shift 1 0 true
  commit
  runIdle 1
  return result

/-- `CheckedRead()` (R197): DP_NOP for the pending data, DP_READ_CSW, DP_NOP for the CSW value, then the comparison. -/
def checkedRead : Proc Word := do
  let p ← config
  let d ← transact p.dapIrDpacc p.op3DpNop 0
  let _ ← transact p.dapIrDpacc p.op3DpReadCsw 0
  let csw ← transact p.dapIrDpacc p.op3DpNop 0
  verify (csw == p.cswExpect) .cswStatusMismatch csw
  return d

/-! ## The command cycle -/

/-- The Pin Provider's initialise request, once after block reset (R28, R120). -/
def State.initPins (s : State) : State :=
  if s.pinInitDone then s else { s with pinInitDone := true, trace := .pinInit :: s.trace }

/-- A command's completion: RESULT takes the value of a command that returns one (R33), and the block is no longer busy
(R120). -/
def State.complete (r : Option Word) (s : State) : State :=
  { s with result := r.getD s.result, busy := false }

/-- The command cycle of R120 from the operand checks of its decode step on: the checks, PinInit, the command's own
procedure, completion. -/
def commandCycle (bad : Option (FaultCode × Word)) (body : Proc (Option Word)) : Proc Unit := do
  match bad with
  | some (code, value) => raise code value
  | none => do
    modify State.initPins
    let r ← body
    hostSlot
    modify (State.complete r)

/-- The state a procedure ends in, whether it ran to its end or stopped. -/
def finalState (m : Proc Unit) (s : State) : State :=
  match m s with
  | .ok _ t => t
  | .error _ t => t

/-- A command as one step of the machine. A fault of the block and an abandoned command are next states too: the block
goes on from both (R243, R270). -/
def runCommand (bad : Option (FaultCode × Word)) (body : Proc (Option Word)) (s : State) :
    Host.Outcome State Fault Refusal :=
  .next (finalState (commandCycle bad body) s)

end Sys2Proof.Machine
end

