-- ==== Sys2Proof/Machine/ApMemory.lean ====
section
/-! DEFINITION. The meanings of the AP Memory Client commands (43_ap_memory.md). The target's memory is the target's: the
block sees it through the TDO samples of these transactions alone (20_memory.md R50, R59). -/

namespace Sys2Proof.Machine

/-- `MemRead(addr, 4)` (R230). -/
def memRead (addr : Word) : Proc Word := do
  let p ← config
  let _ ← transact p.dapIrApacc p.op3ApWriteAddr addr
  let _ ← transact p.dapIrApacc p.op3ApReadData 0
  checkedRead

/-- `MemWrite(addr, 4, value)` (R232): the data of its CheckedRead is discarded. -/
def memWrite (addr value : Word) : Proc Unit := do
  let p ← config
  let _ ← transact p.dapIrApacc p.op3ApWriteAddr addr
  let _ ← transact p.dapIrApacc p.op3ApWriteData value
  let _ ← checkedRead
  return ()

/-- AP_READ (R230): a0 is the address, and RESULT the word read. -/
def execApRead (s : State) : Host.Outcome State Fault Refusal :=
  runCommand (operandFault s.params .apRead) (do
    let r ← memRead s.a0
    return some r) s

/-- AP_WRITE (R232): a0 is the address and a1 the value. RESULT is unchanged. -/
def execApWrite (s : State) : Host.Outcome State Fault Refusal :=
  runCommand (operandFault s.params .apWrite) (do memWrite s.a0 s.a1; return none) s

end Sys2Proof.Machine
end

