-- ==== Sys2Proof/Machine/Dap.lean ====
section
/-! DEFINITION. The meanings of the DAP Transaction Engine commands (42_dap_engine.md). -/

namespace Sys2Proof.Machine

/-- SELECT_IR (R180). -/
def execSelectIr (irCode : BitVec 4) (s : State) : Host.Outcome State Fault Refusal :=
  runCommand (operandFault s.params (.selectIr irCode)) (do selectIr irCode; return none) s

/-- TRANSACT (R181). -/
def execTransact (irCode : BitVec 4) (op3 : BitVec 3) (s : State) : Host.Outcome State Fault Refusal :=
  runCommand (operandFault s.params (.transact irCode op3)) (do
    let r ← transact irCode op3 s.a0
    return some r) s

/-! ## The eleven named commands, each one TRANSACT with a fixed IR, op3 and arg32 (R184, R92) -/

/-- DP_ABORT (R185): op3 0b000, the value DP_ABORT_VALUE. -/
def execDpAbort (s : State) : Host.Outcome State Fault Refusal :=
  runCommand (operandFault s.params .dpAbort) (do
    let r ← transact s.params.dapIrAbort s.params.op3DpAbort s.params.dpAbortValue
    return some r) s

/-- DP_WRITE_CSW (R186): a write of DP CTRL/STAT. -/
def execDpWriteCsw (s : State) : Host.Outcome State Fault Refusal :=
  runCommand (operandFault s.params .dpWriteCsw) (do
    let r ← transact s.params.dapIrDpacc s.params.op3DpWriteCsw s.a0
    return some r) s

/-- DP_READ_CSW (R187): a read request for DP CTRL/STAT. -/
def execDpReadCsw (s : State) : Host.Outcome State Fault Refusal :=
  runCommand (operandFault s.params .dpReadCsw) (do
    let r ← transact s.params.dapIrDpacc s.params.op3DpReadCsw 0
    return some r) s

/-- DP_WRITE_SELECT (R188): a write of DP SELECT. -/
def execDpWriteSelect (s : State) : Host.Outcome State Fault Refusal :=
  runCommand (operandFault s.params .dpWriteSelect) (do
    let r ← transact s.params.dapIrDpacc s.params.op3DpWriteSelect s.a0
    return some r) s

/-- DP_NOP (R189): a read of RDBUFF. -/
def execDpNop (s : State) : Host.Outcome State Fault Refusal :=
  runCommand (operandFault s.params .dpNop) (do
    let r ← transact s.params.dapIrDpacc s.params.op3DpNop 0
    return some r) s

/-- AP_WRITE_CSW (R190): a write of AP CSW. -/
def execApWriteCsw (s : State) : Host.Outcome State Fault Refusal :=
  runCommand (operandFault s.params .apWriteCsw) (do
    let r ← transact s.params.dapIrApacc s.params.op3ApWriteCsw s.a0
    return some r) s

/-- AP_READ_CSW (R191): a read request for AP CSW. -/
def execApReadCsw (s : State) : Host.Outcome State Fault Refusal :=
  runCommand (operandFault s.params .apReadCsw) (do
    let r ← transact s.params.dapIrApacc s.params.op3ApReadCsw 0
    return some r) s

/-- AP_WRITE_ADDR (R192): a write of AP TAR. -/
def execApWriteAddr (s : State) : Host.Outcome State Fault Refusal :=
  runCommand (operandFault s.params .apWriteAddr) (do
    let r ← transact s.params.dapIrApacc s.params.op3ApWriteAddr s.a0
    return some r) s

/-- AP_READ_ADDR (R193): a read request for AP TAR. -/
def execApReadAddr (s : State) : Host.Outcome State Fault Refusal :=
  runCommand (operandFault s.params .apReadAddr) (do
    let r ← transact s.params.dapIrApacc s.params.op3ApReadAddr 0
    return some r) s

/-- AP_WRITE_DATA (R194): a write of AP DRW, a target bus write. -/
def execApWriteData (s : State) : Host.Outcome State Fault Refusal :=
  runCommand (operandFault s.params .apWriteData) (do
    let r ← transact s.params.dapIrApacc s.params.op3ApWriteData s.a0
    return some r) s

/-- AP_READ_DATA (R195): a read request for AP DRW, a target bus read. -/
def execApReadData (s : State) : Host.Outcome State Fault Refusal :=
  runCommand (operandFault s.params .apReadData) (do
    let r ← transact s.params.dapIrApacc s.params.op3ApReadData 0
    return some r) s

/-! ## Checked read and initialisation -/

/-- CHECKED_READ (R197). -/
def execCheckedRead (s : State) : Host.Outcome State Fault Refusal :=
  runCommand (operandFault s.params .checkedRead) (do
    let r ← checkedRead
    return some r) s

/-- `DapInit()` (R198). -/
def dapInit : Proc Unit := do
  let p ← config
  let _ ← scan .ir (irChainBits p) (irChainWord p p.dapIrIdcode)
  let id ← scan .dr 32 0
  verify (id == p.dapIdcode) .dapIdcodeMismatch id
  let _ ← transact p.dapIrDpacc p.op3DpWriteCsw p.dpCtrlPowerup
  let _ ← checkedRead
  let _ ← transact p.dapIrDpacc p.op3DpWriteSelect p.dpSelectValue
  let _ ← transact p.dapIrApacc p.op3ApWriteCsw p.apCswValue
  return ()

/-- DAP_INIT (R198). RESULT is unchanged. -/
def execDapInit (s : State) : Host.Outcome State Fault Refusal :=
  runCommand (operandFault s.params .dapInit) (do dapInit; return none) s

end Sys2Proof.Machine
end

