-- ==== Sys2Proof/Machine/Icepick.lean ====
section
/-! DEFINITION. The meaning of ICEPICK_BRINGUP (41_icepick_bringup.md R160), one procedure per step. -/

namespace Sys2Proof.Machine

/-- Step 1, TAP identification (R161), where CHECK_TAP_IDCODE asks for it. -/
def identifyTap : Proc Unit := do
  let p ← config
  if p.checkTapIdcode then do
    let id ← scan .dr 32 0
    verify (id &&& p.tapIdcodeMask == p.tapIdcodeMatch &&& p.tapIdcodeMask) .tapIdcodeMismatch id
  else pure ()

/-- Step 2, the connect handshake (R162): the write scan, then the read-back scan that the check is on. -/
def connectIcepick : Proc Unit := do
  let p ← config
  let _ ← scan .ir p.icepickIrLen p.icepickConnect
  let _ ← scan .dr 8 (p.connectPattern.setWidth 32)
  let rb ← scan .dr 8 0x00
  verify (connectKey rb == p.connectExpect) .connectMismatch rb

/-- One entry of step 3 (R163): write, read back, compare the address byte, and the run cycles. -/
def configureRouter (w : Word) : Proc Unit := do
  let p ← config
  let _ ← scan .dr 32 (routerWrite p w)
  let rb ← scan .dr 32 (routerRequest w)
  verify (routerAddress rb == routerAddress w) .routerReadbackMismatch rb
  runIdle p.routerRunCycles

/-- The entries of step 3, "in that exact order" (R163). -/
def configureRouters : List Word → Proc Unit
  | [] => pure ()
  | w :: ws => do
    configureRouter w
    configureRouters ws

/-- `IcepickBringup()` (R160). -/
def icepickBringup : Proc Unit := do
  let p ← config
  identifyTap
  connectIcepick
  let _ ← scan .ir p.icepickIrLen p.icepickRouter
  configureRouters p.routerWords
  let _ ← scan .ir p.icepickIrLen p.icepickBypass
  runIdle p.settleCycles

/-- ICEPICK_BRINGUP (R160). RESULT is unchanged. -/
def execIcepickBringup (s : State) : Host.Outcome State Fault Refusal :=
  runCommand (operandFault s.params .icepickBringup) (do icepickBringup; return none) s

end Sys2Proof.Machine
end

