-- ==== Sys2Proof/Machine/Tap.lean ====
section
/-! DEFINITION. The meanings of the eight TAP Sequencer commands (40_tap_sequencer.md section 2). -/

namespace Sys2Proof.Machine

/-- RESET (R123). -/
def execReset (s : State) : Host.Outcome State Fault Refusal :=
  runCommand (operandFault s.params .reset) (do tapReset; return none) s

/-- COMMIT (R124). -/
def execCommit (s : State) : Host.Outcome State Fault Refusal :=
  runCommand (operandFault s.params .commit) (do commit; return none) s

/-- RUN_IDLE (R126): a0 is an unsigned 32-bit count of pulses. -/
def execRunIdle (s : State) : Host.Outcome State Fault Refusal :=
  runCommand (operandFault s.params .runIdle) (do runIdle s.a0.toNat; return none) s

/-- ENTER_IR (R128). -/
def execEnterIr (s : State) : Host.Outcome State Fault Refusal :=
  runCommand (operandFault s.params .enterIr) (do enter .ir; return none) s

/-- ENTER_DR (R129). -/
def execEnterDr (s : State) : Host.Outcome State Fault Refusal :=
  runCommand (operandFault s.params .enterDr) (do enter .dr; return none) s

/-- SHIFT (R130): a0 is outBits, and RESULT the captured bits. -/
def execShift (nbits : BitVec 6) (last : Bool) (s : State) : Host.Outcome State Fault Refusal :=
  runCommand (operandFault s.params (.shift nbits last)) (do
    let r ← shift nbits.toNat s.a0 last
    return some r) s

/-- SCAN_IR (R131). -/
def execScanIr (nbits : BitVec 6) (s : State) : Host.Outcome State Fault Refusal :=
  runCommand (operandFault s.params (.scanIr nbits)) (do
    let r ← scan .ir nbits.toNat s.a0
    return some r) s

/-- SCAN_DR (R132). -/
def execScanDr (nbits : BitVec 6) (s : State) : Host.Outcome State Fault Refusal :=
  runCommand (operandFault s.params (.scanDr nbits)) (do
    let r ← scan .dr nbits.toNat s.a0
    return some r) s

end Sys2Proof.Machine
end

