-- ==== Sys2Proof/Machine/Dispatch.lean ====
section
/-! DEFINITION. The dispatch from a command to its meaning (30_encoding.md R88), one arm per command. -/

namespace Sys2Proof.Machine

/-- The command cycle of an accepted, recognised command (40_tap_sequencer.md R120), on the state right after its
acceptance. -/
def exec (i : Instr) (s : State) : Host.Outcome State Fault Refusal :=
  match i with
  | .reset => Sys2Proof.Machine.execReset s
  | .commit => Sys2Proof.Machine.execCommit s
  | .runIdle => Sys2Proof.Machine.execRunIdle s
  | .enterIr => Sys2Proof.Machine.execEnterIr s
  | .enterDr => Sys2Proof.Machine.execEnterDr s
  | .shift nbits last => Sys2Proof.Machine.execShift nbits last s
  | .scanIr nbits => Sys2Proof.Machine.execScanIr nbits s
  | .scanDr nbits => Sys2Proof.Machine.execScanDr nbits s
  | .selectIr irCode => Sys2Proof.Machine.execSelectIr irCode s
  | .transact irCode op3 => Sys2Proof.Machine.execTransact irCode op3 s
  | .dpAbort => Sys2Proof.Machine.execDpAbort s
  | .dpWriteCsw => Sys2Proof.Machine.execDpWriteCsw s
  | .dpReadCsw => Sys2Proof.Machine.execDpReadCsw s
  | .dpWriteSelect => Sys2Proof.Machine.execDpWriteSelect s
  | .dpNop => Sys2Proof.Machine.execDpNop s
  | .apWriteCsw => Sys2Proof.Machine.execApWriteCsw s
  | .apReadCsw => Sys2Proof.Machine.execApReadCsw s
  | .apWriteAddr => Sys2Proof.Machine.execApWriteAddr s
  | .apReadAddr => Sys2Proof.Machine.execApReadAddr s
  | .apWriteData => Sys2Proof.Machine.execApWriteData s
  | .apReadData => Sys2Proof.Machine.execApReadData s
  | .checkedRead => Sys2Proof.Machine.execCheckedRead s
  | .icepickBringup => Sys2Proof.Machine.execIcepickBringup s
  | .dapInit => Sys2Proof.Machine.execDapInit s
  | .apRead => Sys2Proof.Machine.execApRead s
  | .apWrite => Sys2Proof.Machine.execApWrite s

end Sys2Proof.Machine
end

