-- ==== Sys2Proof/Machine/Command.lean ====
section
/-! DEFINITION. What the block does with the host's next event (10_state.md R30, 40_tap_sequencer.md R120,
70_reset_and_hazards.md R270): the place of a fetch in a machine that fetches nothing (R22). -/

namespace Sys2Proof.Machine

/-- Acceptance of a command: busy, and the operands latched (R32, R120). -/
def State.accepted (s : State) : State := { s with busy := true, a0 := s.arg0, a1 := s.arg1 }

/-- A word accepted by CMD (R120): after a landing point it is decoded; a word that is no command raises ILLEGAL_COMMAND
with the word itself (R82), and a command runs. -/
def issueCommand (w : Word) (s : State) : Host.Outcome State Fault Refusal :=
  match hostSlot s.accepted with
  | .error _ t => .next t
  | .ok _ t =>
    match decode w with
    | .error _ => .next (takeFault .illegalCommand w t)
    | .ok i => exec i t

/-- A host event that reaches the block between commands. A whole-word write of CMD issues a command unless the block is
busy or faulted (R30, R244). -/
def hostEvent (act : HostAct) (s : State) : Host.Outcome State Fault Refusal :=
  match act with
  | .rst => .next (blockReset s)
  | .access (.read size address) => .next (hostAccess (.read size address) s)
  | .access (.write size address value) =>
    if wholeAccess size (s.offsetOf address) && s.offsetOf address == 0x00 && !s.busy && !s.fault then
      issueCommand value s
    else .next (hostAccess (.write size address value) s)

/-- The block takes the next host event, and waits where there is none (R270: "the block waits for a CMD write"). -/
def nextEvent (s : State) : Host.Outcome State Fault Refusal :=
  match s.host with
  | [] => .next s
  | e :: es => hostEvent e.act { s with host := es }

/-- The host event that writes a word to CMD once the block is idle. -/
def cmdWrite (p : Params) (w : Word) : HostEvent :=
  { timing := .whenIdle, act := .access (.write .word p.blockBase w) }

end Sys2Proof.Machine
end

