-- ==== Sys2Proof/Machine/Step.lean ====
section
/-! DEFINITION. One step of the machine: one host event, with the whole command it starts where it starts one
(70_reset_and_hazards.md R290 allows "one per command"). -/

namespace Sys2Proof.Machine

/-- One step. A machine whose parameters are out of R7's range is no such block. -/
def step (s : State) : Host.Outcome State Fault Refusal :=
  if s.params.inRange then nextEvent s else .fault .parametersOutOfRange

/-- The state whose very next step runs the command word `w` (its low `nbits` bits, zeros above): the host's next event
writes it to CMD, and the block is neither busy nor faulted, so that it accepts it (R30). This stands for the host, which
issues every command (R22, R273; log entry 6). -/
def State.withFetchWord (s : State) (nbits w : Nat) : State :=
  { s with
    busy := false
    fault := false
    faultCode := .none
    faultValue := 0
    host := cmdWrite s.params (BitVec.ofNat 32 (w % 2 ^ nbits)) :: s.host }

end Sys2Proof.Machine
end

