-- ==== Sys2Proof/Machine/Assembler.lean ====
section
/-! DEFINITION. How the host issues a line of assembly (30_encoding.md R99) and what the pseudo-instructions expand into
(R100), over commands and operand values; the text of a line is no concern of the block. -/

namespace Sys2Proof.Machine

/-- The commands whose operands column of R88 names a0. -/
def usesArg0 : Instr → Bool
  | .runIdle => true
  | .shift _ _ => true
  | .scanIr _ => true
  | .scanDr _ => true
  | .transact _ _ => true
  | .dpWriteCsw => true
  | .dpWriteSelect => true
  | .apWriteCsw => true
  | .apWriteAddr => true
  | .apWriteData => true
  | .apRead => true
  | .apWrite => true
  | .reset => false
  | .commit => false
  | .enterIr => false
  | .enterDr => false
  | .selectIr _ => false
  | .dpAbort => false
  | .dpReadCsw => false
  | .dpNop => false
  | .apReadCsw => false
  | .apReadAddr => false
  | .apReadData => false
  | .checkedRead => false
  | .icepickBringup => false
  | .dapInit => false

/-- The one command whose operands column of R88 names a1. -/
def usesArg1 (i : Instr) : Bool := i == .apWrite

/-- A line of assembly: a command and the values of the operands it takes from ARG0 and ARG1. A value the command does not
take is not written anywhere. -/
structure Line where
  command : Instr
  operand0 : Word := 0
  operand1 : Word := 0
  deriving DecidableEq, Repr

/-- A whole-word write to the block's register at an offset while the block is idle. -/
def idleWrite (p : Params) (offset value : Word) : HostEvent :=
  ⟨.whenIdle, .access (.write .word (p.blockBase + offset) value)⟩

/-- What the host does with a line: "it writes ARG0, then ARG1, then CMD" (R99). DESIGN CHOICE (log entry 17): a register
the command does not take is not written. -/
def Line.hostEvents (p : Params) (l : Line) : List HostEvent :=
  (if usesArg0 l.command then [idleWrite p 0x04 l.operand0] else []) ++
  (if usesArg1 l.command then [idleWrite p 0x08 l.operand1] else []) ++ [cmdWrite p (encode l.command)]

/-- The pseudo-instructions (R100). -/
inductive Pseudo where
  | idleTick
  | flush
  | boot
  | read32 (addr : Word)
  | write32 (addr value : Word)
  deriving DecidableEq, Repr

/-- The commands a pseudo-instruction expands into (R100, 70_reset_and_hazards.md R271). DESIGN CHOICE (log entry 23): the
spec gives INIT_IDLE_CYCLES no range, and BOOT puts it into the 32-bit ARG0 modulo 2^32. -/
def Pseudo.expand (p : Params) : Pseudo → List Line
  | .idleTick => [{ command := .runIdle, operand0 := 1 }]
  | .flush => [{ command := .dpNop }]
  | .boot =>
    [{ command := .reset }, { command := .runIdle, operand0 := BitVec.ofNat 32 p.initIdleCycles },
      { command := .icepickBringup }, { command := .dapInit }]
  | .read32 addr => [{ command := .apRead, operand0 := addr }]
  | .write32 addr value => [{ command := .apWrite, operand0 := addr, operand1 := value }]

end Sys2Proof.Machine
end

