-- ==== Sys2Proof/Safety.lean ====
section
/-! DEFINITION. The terms the claims use: which commands run undisturbed, the pulses and captures of the spec's "Pin
pulses" paragraphs as plain lists, the target's TAP controller (40_tap_sequencer.md R122), the pipeline contract on the
target (20_memory.md R60), and the invariant of the block's state. Nothing here is used by the machine. -/

namespace Sys2Proof.Machine

/-! ## Undisturbed commands -/

/-- No host event is due inside the next command: the host's next event, if it has one, waits until the block is idle. -/
def State.quiet (s : State) : Bool :=
  match s.host with
  | [] => true
  | e :: _ => e.timing == .whenIdle

/-! ## Pulses and captures -/

/-- The TDO level the target gives to the sample `k` pulses ahead: its scheduled answer, or the draw it will be (R59). -/
def State.tdoAt (s : State) (k : Nat) : Bool :=
  (s.tdo[k]?).getD (Config.tdoDraw (s.draws + (k - s.tdo.length)))

/-- The `n`-bit capture whose first bit is the sample `k` pulses ahead (R10). -/
def State.captured (s : State) (k n : Nat) : Word := assemble ((List.range n).map fun j => s.tdoAt (k + j))

/-- A pulse: its TMS level and its TDI level. -/
abbrev Pulse := Bool × Bool

/-- The five pin events of a pulse, newest first (R121). -/
def pulseEvents (tms tdi level : Bool) : List PinEvent :=
  [.drive .tck false, .sample level, .drive .tck true, .drive .tdi tdi, .drive .tms tms]

/-- The state after one pulse: the three pins, the sample taken and the five events; nothing else (R121). -/
def State.afterPulse (s : State) (q : Pulse) : State :=
  { s with
    pinTck := false
    pinTms := q.1
    pinTdi := q.2
    tdo := s.tdo.tail
    draws := if s.tdo.isEmpty then s.draws + 1 else s.draws
    trace := pulseEvents q.1 q.2 s.nextTdo ++ s.trace }

/-- The state after a list of pulses. -/
def State.pulsed (s : State) (qs : List Pulse) : State := qs.foldl State.afterPulse s

/-- Pulses with TDI 0 (R121). -/
def tmsPulses (ts : List Bool) : List Pulse := ts.map fun t => (t, false)

/-- The data pulses of a SHIFT of `n` bits (R130): TDI is bit `i` of `out`, TMS 1 on the last pulse where `last`. -/
def dataPulses (out : Word) (last : Bool) (n : Nat) : List Pulse :=
  (List.range n).map fun i => (last && i + 1 == n, out.getLsbD i)

/-- The pulses by which a command first leaves the state it starts in for Run-Test/Idle (R124). -/
def State.leavePulses (s : State) : List Pulse :=
  match s.tapState, s.shiftPhase with
  | .idle, _ => []
  | .reset, _ => [(false, false)]
  | .shifting, .exit1 => [(true, false), (false, false)]
  | .shifting, .shift => [(true, false), (true, false), (false, false)]

/-- The pulses from Run-Test/Idle into Shift-IR or Shift-DR (R127). -/
def enterPulses : ScanKind → List Pulse
  | .ir => [(true, false), (true, false), (false, false), (false, false)]
  | .dr => [(true, false), (false, false), (false, false)]

/-- The pulses of a whole scan from Run-Test/Idle (R131, R132). A scan of no bits leaves Shift-xR by three pulses. -/
def scanPulses (kind : ScanKind) (n : Nat) (out : Word) : List Pulse :=
  enterPulses kind ++ dataPulses out true n ++
    (if n = 0 then [(true, false), (true, false), (false, false)] else [(true, false), (false, false)])

/-- What a scan leaves of `irValid`: every IR scan invalidates the cache (10_state.md R26). -/
def irValidAfter (kind : ScanKind) (valid : Bool) : Bool :=
  match kind with
  | .ir => false
  | .dr => valid

/-- The state after a whole scan, from any TAP state (R131, R132). -/
def State.scanned (s : State) (kind : ScanKind) (n : Nat) (out : Word) : State :=
  { s.pulsed (s.leavePulses ++ scanPulses kind n out) with
    tapState := .idle
    shiftPhase := .shift
    irValid := irValidAfter kind s.irValid }

/-- What that scan captures. -/
def State.scanValue (s : State) (kind : ScanKind) (n : Nat) : Word :=
  s.captured (s.leavePulses.length + (enterPulses kind).length) n

/-- The state after `RunIdle(n)` (R126). -/
def State.idled (s : State) (n : Nat) : State :=
  { s.pulsed (s.leavePulses ++ List.replicate n (false, false)) with tapState := .idle, shiftPhase := .shift }

/-! ## Transactions -/

/-- What a transaction asks of the target (42_dap_engine.md R181). -/
structure Request where
  ir : BitVec 4
  op3 : BitVec 3
  arg : Word
  deriving DecidableEq, Repr

/-- The IR cache holds the code (R180). -/
def State.holdsIr (s : State) (code : BitVec 4) : Bool := s.irValid && s.irCache == code

/-- The pulses before a transaction's DR scan: those that leave the starting state, and the IR scan on a cache miss
(R180). -/
def State.selectPulses (s : State) (code : BitVec 4) : List Pulse :=
  s.leavePulses ++
    (if s.holdsIr code then [] else scanPulses .ir (irChainBits s.params) (irChainWord s.params code))

/-- The pulses of a transaction up to its ack check: Enter(DR) and op3 (R181 steps 2 and 3). -/
def ackPulses (r : Request) : List Pulse := enterPulses .dr ++ dataPulses (r.op3.setWidth 32) false 3

/-- The pulses of a transaction after its ack check: arg32, the bypass bit, the commit and the idle clock (R181 steps 4
to 6). -/
def dataPhasePulses (r : Request) : List Pulse :=
  dataPulses r.arg false 32 ++ [(true, false)] ++ [(true, false), (false, false)] ++ [(false, false)]

/-- The ack a transaction captures (R181 step 3). -/
def State.ackOf (s : State) (r : Request) : Word := s.captured ((s.selectPulses r.ir).length + 3) 3

/-- The data a transaction captures (R181 step 4). -/
def State.dataOf (s : State) (r : Request) : Word := s.captured ((s.selectPulses r.ir).length + 6) 32

/-- The ack of a transaction is OK. -/
def State.ackOk (s : State) (r : Request) : Bool := s.ackOf r == s.params.ackOk.setWidth 32

/-- The state after a transaction whose ack is OK (R181). -/
def State.transacted (s : State) (r : Request) : State :=
  { s.pulsed (s.selectPulses r.ir ++ ackPulses r ++ dataPhasePulses r) with
    tapState := .idle
    shiftPhase := .shift
    irCache := r.ir
    irValid := true }

/-- Where a transaction stops whose ack is not OK: in the open scan, with 3 bits of the DR shifted (R181, R243). -/
def State.ackRefused (s : State) (r : Request) : State :=
  takeFault .ackMismatch (s.ackOf r)
    { s.pulsed (s.selectPulses r.ir ++ ackPulses r) with
      tapState := .shifting
      shiftPhase := .shift
      irCache := r.ir
      irValid := true }

/-- The state after a list of transactions, each with an OK ack. -/
def State.transactedAll (s : State) (rs : List Request) : State := rs.foldl State.transacted s

/-- Every transaction of a list, made in order, captures an OK ack. -/
def State.acksOk : List Request → State → Bool
  | [], _ => true
  | r :: rs, s => s.ackOk r && State.acksOk rs (s.transacted r)

/-- The three transactions of CheckedRead (R197), with the op3 values of 30_encoding.md R92, which are parameters. -/
def checkedReadRequests (p : Params) : List Request :=
  [⟨p.dapIrDpacc, p.op3DpNop, 0⟩, ⟨p.dapIrDpacc, p.op3DpReadCsw, 0⟩, ⟨p.dapIrDpacc, p.op3DpNop, 0⟩]

/-- The DP CSW value a CheckedRead compares: the data of its third transaction (R197). -/
def State.cswRead (s : State) : Word :=
  (s.transactedAll ((checkedReadRequests s.params).take 2)).dataOf ⟨s.params.dapIrDpacc, s.params.op3DpNop, 0⟩

/-- The two transactions of AP_READ before its CheckedRead (43_ap_memory.md R230). -/
def readRequests (p : Params) (addr : Word) : List Request :=
  [⟨p.dapIrApacc, p.op3ApWriteAddr, addr⟩, ⟨p.dapIrApacc, p.op3ApReadData, 0⟩]

/-- The two transactions of AP_WRITE before its CheckedRead (R232). -/
def writeRequests (p : Params) (addr value : Word) : List Request :=
  [⟨p.dapIrApacc, p.op3ApWriteAddr, addr⟩, ⟨p.dapIrApacc, p.op3ApWriteData, value⟩]

/-- The transactions a command is made of, for the commands that are made of transactions alone (R92, R181, R184, R197,
R230, R232). -/
def requestsOf (s : State) : Instr → Option (List Request)
  | .transact irCode op3 => some [⟨irCode, op3, s.a0⟩]
  | .dpAbort => some [⟨s.params.dapIrAbort, s.params.op3DpAbort, s.params.dpAbortValue⟩]
  | .dpWriteCsw => some [⟨s.params.dapIrDpacc, s.params.op3DpWriteCsw, s.a0⟩]
  | .dpReadCsw => some [⟨s.params.dapIrDpacc, s.params.op3DpReadCsw, 0⟩]
  | .dpWriteSelect => some [⟨s.params.dapIrDpacc, s.params.op3DpWriteSelect, s.a0⟩]
  | .dpNop => some [⟨s.params.dapIrDpacc, s.params.op3DpNop, 0⟩]
  | .apWriteCsw => some [⟨s.params.dapIrApacc, s.params.op3ApWriteCsw, s.a0⟩]
  | .apReadCsw => some [⟨s.params.dapIrApacc, s.params.op3ApReadCsw, 0⟩]
  | .apWriteAddr => some [⟨s.params.dapIrApacc, s.params.op3ApWriteAddr, s.a0⟩]
  | .apReadAddr => some [⟨s.params.dapIrApacc, s.params.op3ApReadAddr, 0⟩]
  | .apWriteData => some [⟨s.params.dapIrApacc, s.params.op3ApWriteData, s.a0⟩]
  | .apReadData => some [⟨s.params.dapIrApacc, s.params.op3ApReadData, 0⟩]
  | .checkedRead => some (checkedReadRequests s.params)
  | .apRead => some (readRequests s.params s.a0 ++ checkedReadRequests s.params)
  | .apWrite => some (writeRequests s.params s.a0 s.a1 ++ checkedReadRequests s.params)
  | .reset | .commit | .runIdle | .enterIr | .enterDr | .shift _ _ | .scanIr _ | .scanDr _ | .selectIr _
  | .icepickBringup | .dapInit => none

/-! ## ICEPick bring-up -/

/-- The state after bring-up step 1 (41_icepick_bringup.md R161). -/
def State.identified (s : State) : State := if s.params.checkTapIdcode then s.scanned .dr 32 0 else s

/-- Bring-up step 1 passes: the masked IDCODE matches, or no check is asked for (R161). -/
def State.idcodeOk (s : State) : Bool :=
  !s.params.checkTapIdcode ||
    s.scanValue .dr 32 &&& s.params.tapIdcodeMask == s.params.tapIdcodeMatch &&& s.params.tapIdcodeMask

/-- The state after the first two scans of step 2, before the read-back (R162). -/
def State.connectWritten (s : State) : State :=
  (s.scanned .ir s.params.icepickIrLen s.params.icepickConnect).scanned .dr 8 (s.params.connectPattern.setWidth 32)

/-- The state after step 2 (R162). -/
def State.connected (s : State) : State := s.connectWritten.scanned .dr 8 0

/-- Step 2 passes: the low nibble of the second scan's capture is the expected key (R162). -/
def State.connectOk (s : State) : Bool :=
  (s.connectWritten.scanValue .dr 8).extractLsb' 0 4 == s.params.connectExpect

/-- The state after a router word's write scan (R163). -/
def State.routerWritten (s : State) (w : Word) : State := s.scanned .dr 32 (w ||| s.params.routerWriteBit)

/-- The state after a router word's read-back scan (R163). -/
def State.routerReadBack (s : State) (w : Word) : State := (s.routerWritten w).scanned .dr 32 (w &&& 0x7F000000)

/-- A router word's read-back carries its address byte (R163). -/
def State.routerOk (s : State) (w : Word) : Bool :=
  ((s.routerWritten w).scanValue .dr 32).extractLsb' 24 8 == w.extractLsb' 24 8

/-- The state after a router word and its run cycles (R163). -/
def State.routerConfigured (s : State) (w : Word) : State := (s.routerReadBack w).idled s.params.routerRunCycles

/-- Every router word of a list, in order, reads back. -/
def State.routersOk : List Word → State → Bool
  | [], _ => true
  | w :: ws, s => s.routerOk w && State.routersOk ws (s.routerConfigured w)

/-- The state in which the router words are written: after steps 1 and 2 and the router instruction (R160). -/
def State.atRouters (s : State) : State :=
  s.identified.connected.scanned .ir s.params.icepickIrLen s.params.icepickRouter

/-- The state after the whole of bring-up (R160). -/
def State.broughtUp (s : State) : State :=
  ((s.params.routerWords.foldl State.routerConfigured s.atRouters).scanned .ir s.params.icepickIrLen
    s.params.icepickBypass).idled s.params.settleCycles

/-! ## DAP initialisation -/

/-- The state in which DAP_INIT reads the DAP IDCODE (R198). -/
def State.atDapIdcode (s : State) : State :=
  s.scanned .ir (irChainBits s.params) (irChainWord s.params s.params.dapIrIdcode)

/-- The state after the IDCODE scan. -/
def State.dapIdentified (s : State) : State := s.atDapIdcode.scanned .dr 32 0

/-- The transactions of DAP_INIT (R198). -/
def initRequests (p : Params) : List Request :=
  [⟨p.dapIrDpacc, p.op3DpWriteCsw, p.dpCtrlPowerup⟩] ++ checkedReadRequests p ++
    [⟨p.dapIrDpacc, p.op3DpWriteSelect, p.dpSelectValue⟩, ⟨p.dapIrApacc, p.op3ApWriteCsw, p.apCswValue⟩]

/-! ## The target's side of the wire -/

/-- The states of the target's TAP controller (R122, IEEE 1149.1). -/
inductive TapCtl where
  | testLogicReset
  | runTestIdle
  | selectDr
  | selectIr
  | capture (k : ScanKind)
  | shift (k : ScanKind)
  | exit1 (k : ScanKind)
  | pause (k : ScanKind)
  | update (k : ScanKind)
  deriving DecidableEq, Repr

/-- The transition table of R122 for a rising edge of TCK. It has no row for Pause-xR, which the block never enters. -/
def TapCtl.next : TapCtl → Bool → Option TapCtl
  | .testLogicReset, false => some .runTestIdle
  | .testLogicReset, true => some .testLogicReset
  | .runTestIdle, false => some .runTestIdle
  | .runTestIdle, true => some .selectDr
  | .selectDr, false => some (.capture .dr)
  | .selectDr, true => some .selectIr
  | .selectIr, false => some (.capture .ir)
  | .selectIr, true => some .testLogicReset
  | .capture k, false => some (.shift k)
  | .capture k, true => some (.exit1 k)
  | .shift k, false => some (.shift k)
  | .shift k, true => some (.exit1 k)
  | .exit1 k, false => some (.pause k)
  | .exit1 k, true => some (.update k)
  | .update _, false => some .runTestIdle
  | .update _, true => some .selectDr
  | .pause _, _ => none

/-- What the target sees of the block: its controller state and the level of TMS. -/
structure TapView where
  ctl : TapCtl
  tms : Bool
  deriving DecidableEq, Repr

/-- One pin event as the target sees it: TMS is sampled on the rising edge of TCK (R121), and TRST low resets the
controller (R13). -/
def TapView.see (v : TapView) : PinEvent → Option TapView
  | .drive .tms b => some { v with tms := b }
  | .drive .tck true => (v.ctl.next v.tms).map fun c => { v with ctl := c }
  | .drive .tck false => some v
  | .drive .trst false => some { v with ctl := .testLogicReset }
  | .drive .trst true => some v
  | .drive .tdi _ => some v
  | .sample _ => some v
  | .pinInit => some v
  | .latchReset => some { v with tms := true }

/-- What the target sees of a stretch of the trace, newest event first. -/
def TapView.seeAll (v : TapView) : List PinEvent → Option TapView
  | [] => some v
  | e :: es => (v.seeAll es).bind fun u => u.see e

/-- The controller state is the one the block's macro-state stands for (10_state.md R25). -/
def State.believes (s : State) : TapCtl → Bool
  | .testLogicReset => s.tapState == .reset
  | .runTestIdle => s.tapState == .idle
  | .shift _ => s.tapState == .shifting && s.shiftPhase == .shift
  | .exit1 _ => s.tapState == .shifting && s.shiftPhase == .exit1
  | .selectDr => false
  | .selectIr => false
  | .capture _ => false
  | .pause _ => false
  | .update _ => false

/-- The TCK pulses in a stretch of the trace (40_tap_sequencer.md R133). -/
def tckPulses (es : List PinEvent) : Nat := es.countP (· == .drive .tck true)

/-- Commit's pulses from the state, c(s) of R133. -/
def State.leaveCount (s : State) : Nat :=
  match s.tapState, s.shiftPhase with
  | .idle, _ => 0
  | .reset, _ => 1
  | .shifting, .exit1 => 2
  | .shifting, .shift => 3

/-- The pulses of a transaction made of one request on an IR code (70_reset_and_hazards.md R291). -/
def State.transactionCount (s : State) (code : BitVec 4) : Nat := s.leaveCount + if s.holdsIr code then 42 else 58

/-- The pulses of a command that completes, at the default lengths and counts (R133, R291). -/
def pulseCount (s : State) : Instr → Nat
  | .reset => 5
  | .commit => s.leaveCount
  | .runIdle => s.leaveCount + s.a0.toNat
  | .enterIr => s.leaveCount + 4
  | .enterDr => s.leaveCount + 3
  | .shift nbits _ => nbits.toNat
  | .scanIr nbits => s.leaveCount + if nbits = 0 then 7 else nbits.toNat + 6
  | .scanDr nbits => s.leaveCount + if nbits = 0 then 6 else nbits.toNat + 5
  | .selectIr irCode => if s.holdsIr irCode then 0 else s.leaveCount + 16
  | .transact irCode _ => s.transactionCount irCode
  | .dpAbort => s.transactionCount s.params.dapIrAbort
  | .dpWriteCsw => s.transactionCount s.params.dapIrDpacc
  | .dpReadCsw => s.transactionCount s.params.dapIrDpacc
  | .dpWriteSelect => s.transactionCount s.params.dapIrDpacc
  | .dpNop => s.transactionCount s.params.dapIrDpacc
  | .apWriteCsw => s.transactionCount s.params.dapIrApacc
  | .apReadCsw => s.transactionCount s.params.dapIrApacc
  | .apWriteAddr => s.transactionCount s.params.dapIrApacc
  | .apReadAddr => s.transactionCount s.params.dapIrApacc
  | .apWriteData => s.transactionCount s.params.dapIrApacc
  | .apReadData => s.transactionCount s.params.dapIrApacc
  | .checkedRead => s.leaveCount + if s.holdsIr s.params.dapIrDpacc then 126 else 142
  | .icepickBringup => s.leaveCount + 277
  | .dapInit => s.leaveCount + 337
  | .apRead => s.leaveCount + if s.holdsIr s.params.dapIrApacc then 226 else 242
  | .apWrite => s.leaveCount + if s.holdsIr s.params.dapIrApacc then 226 else 242

/-- The lengths, counts and codes behind R291's numbers: the defaults of R7. -/
def defaultCounts (p : Params) : Bool :=
  p.dapIrLen == 4 && p.icepickIrLen == 6 && p.checkTapIdcode && p.routerWords.length == 2 && p.routerRunCycles == 10 &&
    p.settleCycles == 10 && p.dapIrDpacc != p.dapIrApacc

/-- The commands that write RESULT when they complete (10_state.md R33). -/
def writesResult : Instr → Bool
  | .shift _ _ => true
  | .scanIr _ => true
  | .scanDr _ => true
  | .transact _ _ => true
  | .dpAbort => true
  | .dpWriteCsw => true
  | .dpReadCsw => true
  | .dpWriteSelect => true
  | .dpNop => true
  | .apWriteCsw => true
  | .apReadCsw => true
  | .apWriteAddr => true
  | .apReadAddr => true
  | .apWriteData => true
  | .apReadData => true
  | .checkedRead => true
  | .apRead => true
  | .reset => false
  | .commit => false
  | .runIdle => false
  | .enterIr => false
  | .enterDr => false
  | .selectIr _ => false
  | .icepickBringup => false
  | .dapInit => false
  | .apWrite => false

/-- What R39's table says a command that completes leaves of the protocol state: TAP state, phase, `irValid`, `irCache`. -/
def protocolAfter (s : State) : Instr → TapState × ShiftPhase × Bool × BitVec 4
  | .reset => (.reset, .shift, false, s.irCache)
  | .commit => (.idle, .shift, s.irValid, s.irCache)
  | .runIdle => (.idle, .shift, s.irValid, s.irCache)
  | .enterDr => (.shifting, .shift, s.irValid, s.irCache)
  | .enterIr => (.shifting, .shift, false, s.irCache)
  | .shift nbits last =>
    (s.tapState, if last && decide (1 ≤ nbits.toNat) then .exit1 else s.shiftPhase, s.irValid, s.irCache)
  | .scanDr _ => (.idle, .shift, s.irValid, s.irCache)
  | .scanIr _ => (.idle, .shift, false, s.irCache)
  | .selectIr irCode =>
    if s.holdsIr irCode then (s.tapState, s.shiftPhase, s.irValid, s.irCache) else (.idle, .shift, true, irCode)
  | .transact irCode _ => (.idle, .shift, true, irCode)
  | .dpAbort => (.idle, .shift, true, s.params.dapIrAbort)
  | .dpWriteCsw => (.idle, .shift, true, s.params.dapIrDpacc)
  | .dpReadCsw => (.idle, .shift, true, s.params.dapIrDpacc)
  | .dpWriteSelect => (.idle, .shift, true, s.params.dapIrDpacc)
  | .dpNop => (.idle, .shift, true, s.params.dapIrDpacc)
  | .apWriteCsw => (.idle, .shift, true, s.params.dapIrApacc)
  | .apReadCsw => (.idle, .shift, true, s.params.dapIrApacc)
  | .apWriteAddr => (.idle, .shift, true, s.params.dapIrApacc)
  | .apReadAddr => (.idle, .shift, true, s.params.dapIrApacc)
  | .apWriteData => (.idle, .shift, true, s.params.dapIrApacc)
  | .apReadData => (.idle, .shift, true, s.params.dapIrApacc)
  | .checkedRead => (.idle, .shift, true, s.params.dapIrDpacc)
  | .apRead => (.idle, .shift, true, s.params.dapIrDpacc)
  | .apWrite => (.idle, .shift, true, s.params.dapIrDpacc)
  | .icepickBringup => (.idle, .shift, false, s.irCache)
  | .dapInit => (.idle, .shift, true, s.params.dapIrApacc)

/-! ## The pipeline contract (20_memory.md R60, 42_dap_engine.md R182) -/

/-- A request asks for a read: op3[0], RnW (R91). -/
def Request.isRead (r : Request) : Bool := r.op3.getLsbD 0

/-- A transaction as the block makes it: the request it shifts, the ack it captures while it shifts op3, and the data it
captures after that, unless the ack stops it (R181). -/
structure Exchange where
  request : Request
  ack : Word
  data : Option Word
  deriving DecidableEq, Repr

/-- The transactions of a list of requests, up to the first whose ack is not OK (R181, 60_exceptions.md R243). -/
def State.exchanges : List Request → State → List Exchange
  | [], _ => []
  | r :: rs, s =>
    if s.ackOk r then ⟨r, s.ackOf r, some (s.dataOf r)⟩ :: State.exchanges rs (s.transacted r)
    else [⟨r, s.ackOf r, none⟩]

/-- What the target has to say of a transaction, for the DPACC and APACC requests made so far, newest first: the
acknowledge code of the newest and the data that belongs to it (R60). -/
structure Target where
  status : List Request → BitVec 3
  answer : List Request → Word

/-- The contract R60 states on the target, which "a model states as an assumption on the target" (R182): the ack a DPACC
or APACC transaction captures is the status of the DPACC or APACC request before it, and the data is that request's
answer, where it was a read. `past` is the requests made so far, newest first. The first transaction captures any ack and
any data, one after a write any data, and one after an ABORT scan is a first one again (R61, 70_reset_and_hazards.md
R285). -/
def keepsPipeline (p : Params) (target : Target) : List Request → List Exchange → Prop
  | _, [] => True
  | past, e :: rest =>
    if e.request.ir = p.dapIrAbort then keepsPipeline p target [] rest
    else
      (∀ q older, past = q :: older → e.ack = (target.status past).setWidth 32 ∧
        ∀ d, q.isRead = true → e.data = some d → d = target.answer past) ∧
      keepsPipeline p target (e.request :: past) rest

/-- The requests before the `k`-th of a list, newest first, on top of those made before the list. -/
def requestsBefore (past rs : List Request) (k : Nat) : List Request := (rs.take k).reverse ++ past

/-! ## Landing points (log entry 4) -/

/-- The state whose host does one thing after `n` more landing points, and the rest of its schedule after that. -/
def State.awaiting (s : State) (n : Nat) (act : HostAct) (rest : List HostEvent) : State :=
  { s with host := ⟨.after n, act⟩ :: rest }

/-- The pin event right before which a host event can land: the first of a pulse, and each TRST event. -/
def PinEvent.landsBefore : PinEvent → Bool
  | .drive .tms _ => true
  | .drive .trst _ => true
  | .drive .tck _ => false
  | .drive .tdi _ => false
  | .pinInit => false
  | .sample _ => false
  | .latchReset => false

/-- The landing points a stretch of the trace has passed. -/
def landingPoints (es : List PinEvent) : Nat := es.countP PinEvent.landsBefore

/-- The landing points of a command that makes these pin events and ends faulted or not: one more, right before it
completes, where it completes. -/
def commandPoints (made : List PinEvent) (faulted : Bool) : Nat := landingPoints made + if faulted then 0 else 1

/-- A stretch of the trace, newest event first, begins at a landing point: its oldest event is one that host events land
before, or it is empty, right before completion. -/
def beginsAtLanding (es : List PinEvent) : Bool := es.getLast?.all PinEvent.landsBefore

/-! ## The invariant -/

/-- The level block reset gives a pin (R36). -/
def Pin.resetLevel : Pin → Bool
  | .trst => true
  | .tck => false
  | .tms => true
  | .tdi => false

/-- The level a pin was last put at (R36). -/
def lastLevel (p : Pin) : List PinEvent → Bool
  | [] => p.resetLevel
  | .drive q b :: es => if q = p then b else lastLevel p es
  | .latchReset :: _ => p.resetLevel
  | .pinInit :: es => lastLevel p es
  | .sample _ :: es => lastLevel p es

/-- The pin events since the last block reset, newest first. -/
def sinceReset (es : List PinEvent) : List PinEvent := es.takeWhile (· != .latchReset)

/-- The initialise request was made exactly once since block reset, before every other pin event, where `done`; and no
pin event was made where not (40_tap_sequencer.md R120). -/
def initOnce (done : Bool) (es : List PinEvent) : Prop :=
  if done then ∃ later, sinceReset es = later ++ [.pinInit] ∧ .pinInit ∉ later else sinceReset es = []

/-- What holds of the block between commands. -/
structure BlockInvariant (s : State) : Prop where
  /-- a command is atomic: the block is not busy between two steps (R120) -/
  notBusy : s.busy = false
  /-- "Between commands `pin_tck = 0` always" (R36) -/
  clockLow : s.pinTck = false
  /-- TRST is released between commands (R123) -/
  trstReleased : s.pinTrst = true
  /-- EXIT1 is meaningful only while SHIFTING (R24) -/
  phaseInScan : s.tapState ≠ .shifting → s.shiftPhase = .shift
  /-- a valid cache holds ABORT, DPACC or APACC (R26) -/
  cacheLegal : s.irValid = true → s.params.isAccessIr s.irCache = true
  /-- the fault code is NONE exactly while there is no fault (60_exceptions.md R241) -/
  codeNone : s.fault = false ↔ s.faultCode = .none
  /-- "no fault since block reset" has FAULTVAL 0 (R241) -/
  valueZero : s.fault = false → s.faultValue = 0
  /-- each latch equals the last value written to its pin (R36) -/
  trstLatch : s.pinTrst = lastLevel .trst s.trace
  tckLatch : s.pinTck = lastLevel .tck s.trace
  tmsLatch : s.pinTms = lastLevel .tms s.trace
  tdiLatch : s.pinTdi = lastLevel .tdi s.trace
  /-- one initialise request, before anything else (R120) -/
  pinsInitialised : initOnce s.pinInitDone s.trace

end Sys2Proof.Machine
end

