-- ==== Sys2Proof/Certificates/Slice0/Obligations.lean ====
section
/-! DEFINITION. The statements for the provers. A command statement speaks of `exec` on the state right after acceptance
(`busy` set, operands latched); `StepRunsTheDecodedCommand` carries it to `step`. `quiet` says that no host event falls
inside the command; `HostAccessesDoNotDisturb` and `BlockResetAbandonsTheCommand` say what one that does changes. -/

open Sys2Proof Sys2Proof.Machine

/-! ## Encoding -/

/-- R80, R81, R88: no bit of an encoding is dropped: decoding what a command encodes to gives the command back, for every
command and every value of its fields. -/
def Obligations.DecodeOfEncode : Prop := ∀ i : Instr, decode (encode i) = .ok i

/-- R81: "A field an opcode does not use is ignored: any value is accepted and has no effect." A word decodes to a command
exactly when its used bits are the command's encoding. -/
def Obligations.UnusedFieldsIgnored : Prop :=
  ∀ (w : Word) (i : Instr), decode w = .ok i ↔ w &&& i.usedBits = encode i

/-- R82 check 1, R89: the words that are no command are exactly those with a reserved bit set or a reserved opcode. -/
def Obligations.ReservedWordsRejected : Prop :=
  ∀ w : Word, (∃ e, decode w = .error e) ↔
    (w.extractLsb' 19 13 ≠ 0 ∨ w.extractLsb' 0 5 = 0 ∨ 0x1B ≤ (w.extractLsb' 0 5).toNat)

/-- R101, all 22 examples: each word is the command's encoding and decodes to it. -/
def Obligations.WorkedExampleWords : Prop :=
  ∀ e ∈ ([(.reset, 0x00000001), (.commit, 0x00000002), (.runIdle, 0x00000003), (.enterIr, 0x00000004),
      (.enterDr, 0x00000005), (.shift 8 false, 0x00000106), (.shift 8 true, 0x00040106), (.shift 1 true, 0x00040026),
      (.scanIr 10, 0x00000147), (.scanDr 32, 0x00000408), (.scanDr 8, 0x00000108), (.selectIr 0b1000, 0x00004009),
      (.selectIr 0b1010, 0x00005009), (.selectIr 0b1011, 0x00005809), (.transact 0b1010 0b111, 0x0003D00A),
      (.transact 0b1011 0b010, 0x0001580A), (.dpAbort, 0x0000000B), (.checkedRead, 0x00000016),
      (.icepickBringup, 0x00000017), (.dapInit, 0x00000018), (.apRead, 0x00000019), (.apWrite, 0x0000001A)] :
        List (Instr × Word)), encode e.1 = e.2 ∧ decode e.2 = .ok e.1

/-! ## The host interface -/

/-- When the host's next event writes a command word to CMD and the block is neither busy nor faulted, a step is `exec` of
the decoded command on the accepted state (R30, R120). -/
def Obligations.StepRunsTheDecodedCommand : Prop :=
  ∀ (s : State) (w : Word) (i : Instr) (rest : List HostEvent),
    s.params.inRange = true → s.host = cmdWrite s.params w :: rest → s.busy = false → s.fault = false →
    ({ s with host := rest }).quiet = true → decode w = .ok i →
    step s = exec i { s with host := rest, busy := true, a0 := s.arg0, a1 := s.arg1 }

/-- R99, R32: the host events of a line of assembly, on an idle block, run its command with the line's operand values:
those the command takes are in ARG0 and ARG1 and are latched. That a register the command does not take is as it was is
the model's choice (log entry 17): R99 does not say whether the assembler writes it. -/
def Obligations.AssembledLineRuns : Prop :=
  ∀ (s : State) (l : Line) (rest : List HostEvent),
    s.params.inRange = true → s.host = l.hostEvents s.params ++ rest → s.busy = false → s.fault = false →
    ({ s with host := rest }).quiet = true →
    Host.Core.run Sys2Proof.core (l.hostEvents s.params).length s = exec l.command
      { s with
        host := rest, busy := true
        arg0 := if usesArg0 l.command then l.operand0 else s.arg0
        arg1 := if l.command = .apWrite then l.operand1 else s.arg1
        a0 := if usesArg0 l.command then l.operand0 else s.arg0
        a1 := if l.command = .apWrite then l.operand1 else s.arg1 }

/-- R82, R89, R241: a word that is no command raises ILLEGAL_COMMAND with the word itself, with no pin event, no
initialise request and nothing else but the latched operands changed. -/
def Obligations.ReservedWordFaults : Prop :=
  ∀ (s : State) (w : Word) (rest : List HostEvent),
    s.params.inRange = true → s.host = cmdWrite s.params w :: rest → s.busy = false → s.fault = false →
    ({ s with host := rest }).quiet = true →
    (w.extractLsb' 19 13 ≠ 0 ∨ w.extractLsb' 0 5 = 0 ∨ 0x1B ≤ (w.extractLsb' 0 5).toNat) →
    step s = .next { s with
      host := rest, a0 := s.arg0, a1 := s.arg1
      fault := true, faultCode := .illegalCommand, faultValue := w }

/-- R30, R244: a CMD write that finds the block busy is lost and sets OVERRUN, between commands and inside one; one that
finds it faulted and not busy changes nothing. -/
def Obligations.LostCommandWrites : Prop :=
  ∀ (s : State) (w : Word) (tm : Timing) (rest : List HostEvent),
    (s.params.inRange = true → s.host = ⟨tm, .access (.write .word s.params.blockBase w)⟩ :: rest → s.busy = true →
      step s = .next { s with host := rest, overrun := true }) ∧
    (s.host = ⟨.after 0, .access (.write .word s.params.blockBase w)⟩ :: rest → s.busy = true →
      ({ s with host := rest }).quiet = true →
      hostSlot s = .ok () { s with host := rest, overrun := true }) ∧
    (s.params.inRange = true → s.host = ⟨tm, .access (.write .word s.params.blockBase w)⟩ :: rest → s.busy = false →
      s.fault = true → step s = .next { s with host := rest })

/-- R29, R31 to R34: a whole-word read at BLOCK_BASE and an offset returns the register there, 0 for CMD and from offset
0x18 on, and changes nothing in the block. R29 says so of offsets "within the block's window"; that the window has no end
is the model's choice (log entry 11). -/
def Obligations.RegisterReads : Prop :=
  ∀ (s : State) (tm : Timing) (offset : Word) (rest : List HostEvent),
    s.params.inRange = true → s.host = ⟨tm, .access (.read .word (s.params.blockBase + offset))⟩ :: rest →
    offset.extractLsb' 0 2 = 0 →
    ∃ v : Word, step s = .next { s with host := rest, responses := v :: s.responses } ∧
      (offset = 0x00 → v = 0) ∧ (offset = 0x04 → v = s.arg0) ∧ (offset = 0x08 → v = s.arg1) ∧
      (offset = 0x0C → v = s.result) ∧ (offset = 0x10 → v = s.statusWord) ∧ (offset = 0x14 → v = s.faultValue) ∧
      (0x18 ≤ offset.toNat → v = 0)

/-- R29, R32, R244: a whole-word write at BLOCK_BASE and an offset sets ARG0 or ARG1, faulted or not; a write to a
read-only register or from offset 0x18 on is ignored. That the block's window, of which R29 says the last, has no end is
the model's choice (log entry 11). -/
def Obligations.RegisterWrites : Prop :=
  ∀ (s : State) (tm : Timing) (offset v : Word) (rest : List HostEvent),
    s.params.inRange = true → s.host = ⟨tm, .access (.write .word (s.params.blockBase + offset) v)⟩ :: rest →
    offset.extractLsb' 0 2 = 0 →
    (offset = 0x04 → step s = .next { s with host := rest, arg0 := v }) ∧
    (offset = 0x08 → step s = .next { s with host := rest, arg1 := v }) ∧
    (0x0C ≤ offset.toNat → step s = .next { s with host := rest })

/-- The model's choice (log entry 5, from 93_implementation_defined.md item 19): a host access narrower than 32 bits, or
not at a register's own offset, is ignored and returns no data. -/
def Obligations.NarrowAccessesIgnored : Prop :=
  ∀ (s : State) (tm : Timing) (size : AccessSize) (offset v : Word) (rest : List HostEvent) (a : Access),
    s.params.inRange = true → (size ≠ .word ∨ offset.extractLsb' 0 2 ≠ 0) →
    (a = .read size (s.params.blockBase + offset) ∨ a = .write size (s.params.blockBase + offset) v) →
    s.host = ⟨tm, .access a⟩ :: rest →
    step s = .next { s with host := rest }

/-- R31: STATUS is read at offset 0x10 and cannot be written; every field of it shows the state it is hardwired to, its
reserved bits read 0, and it reads 0 after block reset. -/
def Obligations.StatusFields : Prop :=
  (∀ s : State, readRegister 0x10 s = s.statusWord ∧ (∀ v, writeRegister 0x10 v s = s) ∧
    s.statusWord.getLsbD 0 = s.busy ∧ s.statusWord.getLsbD 1 = s.fault ∧ s.statusWord.getLsbD 2 = s.overrun ∧
    s.statusWord.getLsbD 3 = s.pinInitDone ∧
    s.statusWord.extractLsb' 4 2 =
      (if s.tapState = .reset then 0b00 else if s.tapState = .idle then 0b01 else 0b10) ∧
    s.statusWord.getLsbD 6 = (s.shiftPhase == .exit1) ∧ s.statusWord.getLsbD 7 = s.irValid ∧
    s.statusWord.extractLsb' 8 4 = s.irCache ∧ s.statusWord.extractLsb' 12 4 = 0 ∧
    s.statusWord.extractLsb' 16 8 = s.faultCode.bits ∧ s.statusWord.extractLsb' 24 8 = 0) ∧
  State.reset.statusWord = 0

/-- R23, R24, R241: the numbers of the named states. -/
def Obligations.StateEncodings : Prop :=
  TapState.reset.bits = 0b00 ∧ TapState.idle.bits = 0b01 ∧ TapState.shifting.bits = 0b10 ∧
  ShiftPhase.shift.bits = 0 ∧ ShiftPhase.exit1.bits = 1 ∧
  FaultCode.none.bits = 0x00 ∧ FaultCode.tapIdcodeMismatch.bits = 0x01 ∧ FaultCode.connectMismatch.bits = 0x02 ∧
  FaultCode.routerReadbackMismatch.bits = 0x03 ∧ FaultCode.dapIdcodeMismatch.bits = 0x04 ∧
  FaultCode.ackMismatch.bits = 0x05 ∧ FaultCode.cswStatusMismatch.bits = 0x06 ∧
  FaultCode.shiftNotShifting.bits = 0x07 ∧ FaultCode.shiftAfterLast.bits = 0x08 ∧ FaultCode.badIrCode.bits = 0x09 ∧
  FaultCode.illegalCommand.bits = 0x0A ∧ FaultCode.nbitsRange.bits = 0x0B

/-- R32, R30, R287: host accesses that fall inside a command, in any number and at any landing points (the model's choice
of points, log entry 4), change the host's
own registers (ARG0, ARG1, OVERRUN, the data read) and nothing the command does: its pin events, its operands, its
RESULT, its faults and the protocol state are those of the undisturbed command. -/
def Obligations.HostAccessesDoNotDisturb : Prop :=
  ∀ (i : Instr) (s : State), (∀ e ∈ s.host, ∃ a, e.act = .access a) →
    ∃ t u, exec i s = .next t ∧ exec i { s with host := [] } = .next u ∧
      { t with arg0 := u.arg0, arg1 := u.arg1, overrun := u.overrun, responses := u.responses, host := [] } = u

/-- R30, R32, R33, R28: a host access that is due at a landing point of a command (the model's choice of points, log entry
4) takes effect there: ARG0 and ARG1 take what is written, a CMD write sets OVERRUN, RESULT reads as it was before the
command, STATUS reads busy and not faulted. One that is due later still waits, its landing points counted down. (A command
runs on a busy, unfaulted block, R30.) -/
def Obligations.AccessesLandInsideCommands : Prop :=
  ∀ (i : Instr) (s : State) (n : Nat) (v : Word) (rest : List HostEvent), s.busy = true → s.fault = false →
    ({ s with host := rest }).quiet = true →
    ∃ u made, exec i { s with host := rest } = .next u ∧ u.trace = made ++ s.trace ∧
      (commandPoints made u.fault ≤ n → ∀ a : Access,
        exec i (s.awaiting n (.access a) rest) =
          .next (u.awaiting (n - commandPoints made u.fault) (.access a) rest)) ∧
      (n < commandPoints made u.fault →
        exec i (s.awaiting n (.access (.write .word (s.params.blockBase + 0x04) v)) rest) = .next { u with arg0 := v } ∧
        exec i (s.awaiting n (.access (.write .word (s.params.blockBase + 0x08) v)) rest) = .next { u with arg1 := v } ∧
        exec i (s.awaiting n (.access (.write .word s.params.blockBase v)) rest) = .next { u with overrun := true } ∧
        exec i (s.awaiting n (.access (.read .word (s.params.blockBase + 0x0C))) rest) =
          .next { u with responses := s.result :: u.responses } ∧
        ∃ x : Word, exec i (s.awaiting n (.access (.read .word (s.params.blockBase + 0x10))) rest) =
          .next { u with responses := x :: u.responses } ∧ x.getLsbD 0 = true ∧ x.getLsbD 1 = false)

/-! ## Reset -/

/-- R7, R90 to R92, R95 to R97: the default of every parameter to which the spec gives one; the default of ICEPICK_BYPASS
is all ones of ICEPICK_IR_LEN bits, whatever length that is set to. -/
def Obligations.ParameterDefaults : Prop :=
  Params.defaults.dapIrLen = 4 ∧ Params.defaults.icepickIrLen = 6 ∧ Params.defaults.icepickBypass = 0x3F ∧
  Params.defaults.icepickConnect = 0x07 ∧ Params.defaults.icepickRouter = 0x02 ∧
  Params.defaults.icepickIdcodeIr = 0x04 ∧ Params.defaults.dapIrAbort = 0b1000 ∧
  Params.defaults.dapIrDpacc = 0b1010 ∧ Params.defaults.dapIrApacc = 0b1011 ∧ Params.defaults.dapIrIdcode = 0b1110 ∧
  Params.defaults.ackOk = 0b010 ∧ Params.defaults.tapIdcodeMask = 0x0FFFFFFF ∧
  Params.defaults.tapIdcodeMatch = 0x0B94402F ∧ Params.defaults.checkTapIdcode = true ∧
  Params.defaults.connectPattern = 0x89 ∧ Params.defaults.connectExpect = 0b1001 ∧
  Params.defaults.routerWords = [0x60002000, 0x2C002100] ∧ Params.defaults.routerWriteBit = 0x80000000 ∧
  Params.defaults.routerRunCycles = 10 ∧ Params.defaults.settleCycles = 10 ∧ Params.defaults.dapIdcode = 0x3BA00477 ∧
  Params.defaults.cswExpect = 0xF0000000 ∧ Params.defaults.dpAbortValue = 0x00000001 ∧
  Params.defaults.initIdleCycles = 10 ∧ Params.defaults.op3DpAbort = 0b000 ∧ Params.defaults.op3DpWriteCsw = 0b010 ∧
  Params.defaults.op3DpReadCsw = 0b011 ∧ Params.defaults.op3DpWriteSelect = 0b100 ∧ Params.defaults.op3DpNop = 0b111 ∧
  Params.defaults.op3ApWriteCsw = 0b000 ∧ Params.defaults.op3ApReadCsw = 0b001 ∧
  Params.defaults.op3ApWriteAddr = 0b010 ∧ Params.defaults.op3ApReadAddr = 0b011 ∧
  Params.defaults.op3ApWriteData = 0b110 ∧ Params.defaults.op3ApReadData = 0b111 ∧
  ∀ n j : Nat, n ≤ 32 → ({ Params.defaults with icepickIrLen := n }).icepickBypass.getLsbD j = decide (j < n)

/-- R38: every piece of block state after block reset. -/
def Obligations.ResetValues : Prop :=
  State.reset.tapState = .reset ∧ State.reset.irValid = false ∧ State.reset.irCache = 0b0000 ∧
  State.reset.shiftPhase = .shift ∧ State.reset.fault = false ∧ State.reset.faultCode.bits = 0x00 ∧
  State.reset.faultValue = 0 ∧ State.reset.busy = false ∧ State.reset.overrun = false ∧
  State.reset.pinInitDone = false ∧ State.reset.arg0 = 0 ∧ State.reset.arg1 = 0 ∧ State.reset.result = 0 ∧
  State.reset.a0 = 0 ∧ State.reset.a1 = 0 ∧ State.reset.pinTrst = true ∧ State.reset.pinTck = false ∧
  State.reset.pinTms = true ∧ State.reset.pinTdi = false

/-- R270, R245: block reset, from any state, faulted or not, gives every piece of block state its value of R38, emits no
pulse, and leaves the parameters and the world outside as they were; so does one at the landing point right after a command
word is accepted (the model's choice of points, log entry 4): nothing of the command happens. -/
def Obligations.BlockResetStep : Prop :=
  ∀ (s : State) (tm : Timing) (w : Word) (rest : List HostEvent), s.params.inRange = true →
    (s.host = ⟨tm, .rst⟩ :: rest ∨
      s.host = cmdWrite s.params w :: ⟨.after 0, .rst⟩ :: rest ∧ s.busy = false ∧ s.fault = false) →
    step s = .next { State.reset with
      params := s.params, host := rest, tdo := s.tdo, draws := s.draws, responses := s.responses
      trace := .latchReset :: s.trace }

/-- R253, R270: a block reset due at the `n`-th landing point of a command (the model's choice of points, log entry 4)
abandons it exactly there: the pin events before that point are made, none follows, the samples taken are those of the
pulses made, and the block is in its reset state. One that is due after the command's last landing point leaves the
command as it is and still waits. (A command runs on an unfaulted block, R30.) -/
def Obligations.BlockResetAbandonsTheCommand : Prop :=
  ∀ (i : Instr) (s : State) (n : Nat) (rest : List HostEvent), s.fault = false →
    ∃ u made, exec i { s with host := [] } = .next u ∧ u.trace = made ++ s.trace ∧
      (commandPoints made u.fault ≤ n →
        exec i (s.awaiting n .rst rest) = .next (u.awaiting (n - commandPoints made u.fault) .rst rest)) ∧
      (n < commandPoints made u.fault → ∃ early late, made = late ++ early ∧ landingPoints early = n ∧
        beginsAtLanding late = true ∧
        exec i (s.awaiting n .rst rest) = .next { State.reset with
          params := s.params, host := rest, responses := s.responses
          tdo := s.tdo.drop (tckPulses early), draws := s.draws + (tckPulses early - s.tdo.length)
          trace := .latchReset :: (early ++ s.trace) })

/-! ## TAP Sequencer commands -/

/-- R121: a pulse sets TMS, then TDI, raises TCK, samples TDO, lowers TCK, and returns the sample; nothing else changes. -/
def Obligations.PulseEvents : Prop :=
  ∀ (s : State) (tms tdi : Bool), s.quiet = true →
    pulse tms tdi s = .ok (s.tdoAt 0) { s with
      pinTms := tms, pinTdi := tdi, pinTck := false
      tdo := s.tdo.tail, draws := if s.tdo = [] then s.draws + 1 else s.draws
      trace := .drive .tck false :: .sample (s.tdoAt 0) :: .drive .tck true :: .drive .tdi tdi :: .drive .tms tms ::
        s.trace }

/-- R123: RESET drives TRST low then high and clocks five pulses with TMS 1 and TDI 0; it leaves RESET/SHIFT and no valid
IR cache; everything else is as before. -/
def Obligations.ResetCommand : Prop :=
  decode 0x00000001 = .ok .reset ∧ ∀ s : State, s.quiet = true →
    exec .reset s = .next
      { ({ s.initPins with
            pinTrst := true
            trace := .drive .trst true :: .drive .trst false :: s.initPins.trace } : State).pulsed
          [(true, false), (true, false), (true, false), (true, false), (true, false)] with
        tapState := .reset, shiftPhase := .shift, irValid := false, busy := false }

/-- R124: COMMIT's pulses in each of the four cases; it leaves IDLE/SHIFT and changes nothing else. -/
def Obligations.CommitCommand : Prop :=
  decode 0x00000002 = .ok .commit ∧ ∀ s : State, s.quiet = true → ∃ qs : List Pulse,
    exec .commit s = .next { s.initPins.pulsed qs with tapState := .idle, shiftPhase := .shift, busy := false } ∧
    (s.tapState = .idle → qs = []) ∧
    (s.tapState = .reset → qs = [(false, false)]) ∧
    (s.tapState = .shifting → s.shiftPhase = .exit1 → qs = [(true, false), (false, false)]) ∧
    (s.tapState = .shifting → s.shiftPhase = .shift → qs = [(true, false), (true, false), (false, false)])

/-- R125 (a), (b), (c): after COMMIT the state is IDLE; from IDLE it makes no pin event of its own, and a second COMMIT
changes nothing at all; COMMIT changes neither the IR cache nor RESULT. -/
def Obligations.CommitIdempotent : Prop :=
  ∀ s : State, s.quiet = true → ∃ t, exec .commit s = .next t ∧ exec .commit t = .next t ∧ t.tapState = .idle ∧
    (s.tapState = .idle → t.trace = s.initPins.trace) ∧ t.irValid = s.irValid ∧ t.irCache = s.irCache ∧ t.result = s.result

/-- R126: RUN_IDLE makes COMMIT's pulses and then a0 pulses with TMS 0, leaves IDLE, and with a0 = 0 is exactly COMMIT. -/
def Obligations.RunIdleCommand : Prop :=
  decode 0x00000003 = .ok .runIdle ∧ ∀ s : State, s.quiet = true →
    exec .runIdle s = .next
      { s.initPins.pulsed (s.leavePulses ++ List.replicate s.a0.toNat (false, false)) with
        tapState := .idle, shiftPhase := .shift, busy := false } ∧
    (s.a0 = 0 → exec .runIdle s = exec .commit s)

/-- R127, R128, R129: ENTER_IR and ENTER_DR make COMMIT's pulses and their own pattern, leave SHIFTING/SHIFT, and ENTER_IR
alone invalidates the IR cache. -/
def Obligations.EnterCommands : Prop :=
  decode 0x00000004 = .ok .enterIr ∧ decode 0x00000005 = .ok .enterDr ∧ ∀ s : State, s.quiet = true →
    exec .enterIr s = .next
      { s.initPins.pulsed (s.leavePulses ++ [(true, false), (true, false), (false, false), (false, false)]) with
        tapState := .shifting, shiftPhase := .shift, irValid := false, busy := false } ∧
    exec .enterDr s = .next
      { s.initPins.pulsed (s.leavePulses ++ [(true, false), (false, false), (false, false)]) with
        tapState := .shifting, shiftPhase := .shift, busy := false }

/-- R130: SHIFT in an open scan makes its data pulses, puts the capture in RESULT, and leaves EXIT1 exactly where LAST = 1
and NBITS ≥ 1. Outside a scan it faults SHIFT_NOT_SHIFTING with the TAP state's number, after the scan's last bit
SHIFT_AFTER_LAST with 0, and with NBITS above 32 NBITS_RANGE; none of these makes a pulse, whatever LAST is. -/
def Obligations.ShiftCommand : Prop :=
  ∀ (s : State) (nbits : BitVec 6) (last : Bool), s.quiet = true →
    decode (0x06 ||| nbits.setWidth 32 <<< 5 ||| (BitVec.ofBool last).setWidth 32 <<< 18) = .ok (.shift nbits last) ∧
    (32 < nbits.toNat →
      exec (.shift nbits last) s = .next { s with
        fault := true, faultCode := .nbitsRange, faultValue := nbits.setWidth 32, busy := false }) ∧
    (nbits.toNat ≤ 32 → s.tapState = .shifting → s.shiftPhase = .shift →
      exec (.shift nbits last) s = .next
        { s.initPins.pulsed (dataPulses s.a0 last nbits.toNat) with
          shiftPhase := if last = true ∧ 1 ≤ nbits.toNat then .exit1 else .shift
          result := s.captured 0 nbits.toNat, busy := false }) ∧
    (nbits.toNat ≤ 32 → s.tapState ≠ .shifting →
      exec (.shift nbits last) s = .next { s.initPins with
        fault := true, faultCode := .shiftNotShifting, faultValue := if s.tapState = .reset then 0 else 1
        busy := false }) ∧
    (nbits.toNat ≤ 32 → s.tapState = .shifting → s.shiftPhase = .exit1 →
      exec (.shift nbits last) s = .next { s.initPins with
        fault := true, faultCode := .shiftAfterLast, faultValue := 0, busy := false })

/-- R10, R15, R130 to R132: a capture is assembled least significant bit first, and its bits from the shift length on are
0: bit `j` of RESULT is the TDO sample of data pulse `j`. -/
def Obligations.CaptureBits : Prop :=
  ∀ (s : State) (k n j : Nat), n ≤ 32 → (s.captured k n).getLsbD j = (decide (j < n) && s.tdoAt (k + j))

/-- R131, R132: the two scan commands, whatever their word's LAST bit is, from any TAP state: their pulses, RESULT,
IDLE/SHIFT, and the IR cache invalidated by SCAN_IR alone; NBITS above 32 is NBITS_RANGE. -/
def Obligations.ScanCommands : Prop :=
  ∀ (s : State) (nbits : BitVec 6) (last : Bool), s.quiet = true →
    decode (0x07 ||| nbits.setWidth 32 <<< 5 ||| (BitVec.ofBool last).setWidth 32 <<< 18) = .ok (.scanIr nbits) ∧
    decode (0x08 ||| nbits.setWidth 32 <<< 5 ||| (BitVec.ofBool last).setWidth 32 <<< 18) = .ok (.scanDr nbits) ∧
    (nbits.toNat ≤ 32 → exec (.scanIr nbits) s = .next
      { s.initPins.pulsed (s.leavePulses ++ scanPulses .ir nbits.toNat s.a0) with
        tapState := .idle, shiftPhase := .shift, irValid := false
        result := s.captured (s.leavePulses.length + 4) nbits.toNat, busy := false }) ∧
    (nbits.toNat ≤ 32 → exec (.scanDr nbits) s = .next
      { s.initPins.pulsed (s.leavePulses ++ scanPulses .dr nbits.toNat s.a0) with
        tapState := .idle, shiftPhase := .shift
        result := s.captured (s.leavePulses.length + 3) nbits.toNat, busy := false }) ∧
    (32 < nbits.toNat → ∀ i ∈ [Instr.scanIr nbits, .scanDr nbits],
      exec i s = .next { s with
        fault := true, faultCode := .nbitsRange, faultValue := nbits.setWidth 32, busy := false })

/-- R134: SCAN_DR n, v is ENTER_DR; SHIFT.L n, v; COMMIT, and SCAN_IR the same with ENTER_IR, for 1 ≤ n ≤ 32: the same
final state, with the same pin events and RESULT. (The host latches the same a0 for each.) -/
def Obligations.ScanIsEnterShiftCommit : Prop :=
  ∀ (s t u v : State) (nbits : BitVec 6), s.quiet = true → 1 ≤ nbits.toNat → nbits.toNat ≤ 32 →
    (exec .enterDr s = .next t → exec (.shift nbits true) t = .next u → exec .commit u = .next v →
      exec (.scanDr nbits) s = .next v) ∧
    (exec .enterIr s = .next t → exec (.shift nbits true) t = .next u → exec .commit u = .next v →
      exec (.scanIr nbits) s = .next v)

/-- R134: a scan split into two SHIFTs, LAST only on the second, makes the same pin events as one SHIFT of the summed
length whose operand is the two operands' bits in order. -/
def Obligations.SplitShiftIsOneShift : Prop :=
  ∀ (s t u v : State) (m n : BitVec 6) (lo hi : Word), s.quiet = true → 1 ≤ n.toNat → m.toNat + n.toNat ≤ 32 →
    s.tapState = .shifting → s.shiftPhase = .shift →
    exec (.shift m false) { s with a0 := lo } = .next t → exec (.shift n true) { t with a0 := hi } = .next u →
    exec (.shift (BitVec.ofNat 6 (m.toNat + n.toNat)) true)
      { s with a0 := (lo &&& (BitVec.allOnes 32 >>> (32 - m.toNat))) ||| (hi <<< m.toNat) } = .next v →
    v.trace = u.trace ∧ v.tapState = u.tapState ∧ v.shiftPhase = u.shiftPhase

/-- R82 checks 2 and 3, R242: NBITS above 32 and an IRCODE outside ABORT, DPACC and APACC fault with the field's value,
before the initialise request and any pin event, whatever the TAP state is. -/
def Obligations.OperandsOutOfRange : Prop :=
  ∀ (s : State) (nbits : BitVec 6) (last : Bool) (irCode : BitVec 4) (op3 : BitVec 3),
    (32 < nbits.toNat → ∀ i ∈ [Instr.shift nbits last, .scanIr nbits, .scanDr nbits],
      exec i s = .next { s with
        fault := true, faultCode := .nbitsRange, faultValue := nbits.setWidth 32, busy := false }) ∧
    (irCode ≠ s.params.dapIrAbort → irCode ≠ s.params.dapIrDpacc → irCode ≠ s.params.dapIrApacc →
      ∀ i ∈ [Instr.selectIr irCode, .transact irCode op3],
        exec i s = .next { s with
          fault := true, faultCode := .badIrCode, faultValue := irCode.setWidth 32, busy := false })

/-! ## DAP engine commands -/

/-- R180: SELECT_IR of the cached code makes no pulse and does not commit an open scan; of another code it scans the code
below the ICEPick bypass code and caches it; a code that is none of ABORT, DPACC and APACC is BAD_IR_CODE. -/
def Obligations.SelectIrCommand : Prop :=
  ∀ (s : State) (irCode : BitVec 4), s.quiet = true →
    decode (0x09 ||| irCode.setWidth 32 <<< 11) = .ok (.selectIr irCode) ∧
    (s.params.isAccessIr irCode = false →
      exec (.selectIr irCode) s = .next { s with
        fault := true, faultCode := .badIrCode, faultValue := irCode.setWidth 32, busy := false }) ∧
    (s.params.isAccessIr irCode = true → s.irValid = true ∧ s.irCache = irCode →
      exec (.selectIr irCode) s = .next { s.initPins with busy := false }) ∧
    (s.params.isAccessIr irCode = true → ¬(s.irValid = true ∧ s.irCache = irCode) →
      exec (.selectIr irCode) s = .next
        { s.initPins.pulsed (s.leavePulses ++ scanPulses .ir (s.params.dapIrLen + s.params.icepickIrLen)
            (s.params.icepickBypass <<< s.params.dapIrLen ||| irCode.setWidth 32)) with
          tapState := .idle, shiftPhase := .shift, irCache := irCode, irValid := true, busy := false })

/-- R183, source P2 and P4: SELECT_IR clocks the chain if and only if the cache is invalid or holds another code. -/
def Obligations.IrCacheLaw : Prop :=
  ∀ (s t : State) (irCode : BitVec 4), s.quiet = true → s.params.isAccessIr irCode = true →
    exec (.selectIr irCode) s = .next t →
    (tckPulses s.trace < tckPulses t.trace ↔ s.irValid = false ∨ s.irCache ≠ irCode)

/-- R181: TRANSACT with an OK ack: the IR scan where the cache misses, the DR scan of op3, arg32 and the bypass bit, the
commit and the idle clock; RESULT is the data captured, and the cache holds the code. -/
def Obligations.TransactCommand : Prop :=
  ∀ (s : State) (irCode : BitVec 4) (op3 : BitVec 3), s.quiet = true → s.params.isAccessIr irCode = true →
    s.ackOk ⟨irCode, op3, s.a0⟩ = true →
    exec (.transact irCode op3) s = .next { s.initPins.transacted ⟨irCode, op3, s.a0⟩ with
      result := s.dataOf ⟨irCode, op3, s.a0⟩, busy := false }

/-- R92, R184 to R195: the eleven named commands with an OK ack, each the transaction of its row of R92, with the row's
op3 (ParameterDefaults gives their numbers). -/
def Obligations.NamedCommands : Prop :=
  ∀ s : State, s.quiet = true →
    ∀ e ∈ [(Instr.dpAbort, Request.mk s.params.dapIrAbort s.params.op3DpAbort s.params.dpAbortValue),
        (.dpWriteCsw, ⟨s.params.dapIrDpacc, s.params.op3DpWriteCsw, s.a0⟩),
        (.dpReadCsw, ⟨s.params.dapIrDpacc, s.params.op3DpReadCsw, 0⟩),
        (.dpWriteSelect, ⟨s.params.dapIrDpacc, s.params.op3DpWriteSelect, s.a0⟩),
        (.dpNop, ⟨s.params.dapIrDpacc, s.params.op3DpNop, 0⟩),
        (.apWriteCsw, ⟨s.params.dapIrApacc, s.params.op3ApWriteCsw, s.a0⟩),
        (.apReadCsw, ⟨s.params.dapIrApacc, s.params.op3ApReadCsw, 0⟩),
        (.apWriteAddr, ⟨s.params.dapIrApacc, s.params.op3ApWriteAddr, s.a0⟩),
        (.apReadAddr, ⟨s.params.dapIrApacc, s.params.op3ApReadAddr, 0⟩),
        (.apWriteData, ⟨s.params.dapIrApacc, s.params.op3ApWriteData, s.a0⟩),
        (.apReadData, ⟨s.params.dapIrApacc, s.params.op3ApReadData, 0⟩)],
      s.ackOk e.2 = true →
        exec e.1 s = .next { s.initPins.transacted e.2 with result := s.dataOf e.2, busy := false }

/-- R181, R243: in every command made of transactions, the first ack that is not OK stops it in the open scan, after 3
bits of the DR, with ACK_MISMATCH and the ack; RESULT is unchanged. -/
def Obligations.AckMismatchStops : Prop :=
  ∀ (s : State) (i : Instr) (rs : List Request) (k : Nat) (r : Request), s.quiet = true →
    i.wellFormed s.params = true → requestsOf s i = some rs → rs[k]? = some r →
    s.initPins.acksOk (rs.take k) = true → (s.initPins.transactedAll (rs.take k)).ackOk r = false →
    exec i s = .next ((s.initPins.transactedAll (rs.take k)).ackRefused r)

/-- R197: CHECKED_READ with OK acks and the expected DP CSW: RESULT is the data of its first transaction. -/
def Obligations.CheckedReadCommand : Prop :=
  ∀ s : State, s.quiet = true → s.initPins.acksOk (checkedReadRequests s.params) = true →
    s.initPins.cswRead = s.params.cswExpect →
    exec .checkedRead s = .next { s.initPins.transactedAll (checkedReadRequests s.params) with
      result := s.dataOf ⟨s.params.dapIrDpacc, s.params.op3DpNop, 0⟩, busy := false }

/-- R197, R243: CHECKED_READ, AP_READ and AP_WRITE with OK acks and another DP CSW fault CSW_STATUS_MISMATCH with the value
read, after all their pulses; RESULT is unchanged. -/
def Obligations.CswMismatchFaults : Prop :=
  ∀ (s : State) (i : Instr) (before : List Request), s.quiet = true →
    requestsOf s i = some (before ++ checkedReadRequests s.params) →
    s.initPins.acksOk (before ++ checkedReadRequests s.params) = true →
    (s.initPins.transactedAll before).cswRead ≠ s.params.cswExpect →
    exec i s = .next { s.initPins.transactedAll (before ++ checkedReadRequests s.params) with
      fault := true, faultCode := .cswStatusMismatch, faultValue := (s.initPins.transactedAll before).cswRead
      busy := false }

/-- R198: DAP_INIT where the IDCODE, every ack and the DP CSW are as expected: its two scans and six transactions; RESULT
is unchanged. -/
def Obligations.DapInitCommand : Prop :=
  ∀ s : State, s.quiet = true → s.initPins.atDapIdcode.scanValue .dr 32 = s.params.dapIdcode →
    s.initPins.dapIdentified.acksOk (initRequests s.params) = true →
    (s.initPins.dapIdentified.transacted ⟨s.params.dapIrDpacc, s.params.op3DpWriteCsw, s.params.dpCtrlPowerup⟩).cswRead =
      s.params.cswExpect →
    exec .dapInit s = .next { s.initPins.dapIdentified.transactedAll (initRequests s.params) with busy := false }

/-- R198: DAP_INIT compares the IDCODE with no mask: any other value faults DAP_IDCODE_MISMATCH with the capture, after the
two scans. -/
def Obligations.DapIdcodeMismatch : Prop :=
  ∀ s : State, s.quiet = true → s.initPins.atDapIdcode.scanValue .dr 32 ≠ s.params.dapIdcode →
    exec .dapInit s = .next { s.initPins.dapIdentified with
      fault := true, faultCode := .dapIdcodeMismatch
      faultValue := s.initPins.atDapIdcode.scanValue .dr 32, busy := false }

/-- R198, "in sequence order": after the IDCODE, the first ack that is not OK stops DAP_INIT, and so does a DP CSW that is
not the expected one after its four acks. -/
def Obligations.DapInitStops : Prop :=
  ∀ s : State, s.quiet = true → s.initPins.atDapIdcode.scanValue .dr 32 = s.params.dapIdcode →
    (∀ (k : Nat) (r : Request), (initRequests s.params)[k]? = some r →
      s.initPins.dapIdentified.acksOk ((initRequests s.params).take k) = true →
      (4 ≤ k → (s.initPins.dapIdentified.transacted
        ⟨s.params.dapIrDpacc, s.params.op3DpWriteCsw, s.params.dpCtrlPowerup⟩).cswRead = s.params.cswExpect) →
      (s.initPins.dapIdentified.transactedAll ((initRequests s.params).take k)).ackOk r = false →
      exec .dapInit s =
        .next ((s.initPins.dapIdentified.transactedAll ((initRequests s.params).take k)).ackRefused r)) ∧
    (s.initPins.dapIdentified.acksOk ((initRequests s.params).take 4) = true →
      (s.initPins.dapIdentified.transacted
        ⟨s.params.dapIrDpacc, s.params.op3DpWriteCsw, s.params.dpCtrlPowerup⟩).cswRead ≠ s.params.cswExpect →
      exec .dapInit s = .next { s.initPins.dapIdentified.transactedAll ((initRequests s.params).take 4) with
        fault := true, faultCode := .cswStatusMismatch
        faultValue := (s.initPins.dapIdentified.transacted
          ⟨s.params.dapIrDpacc, s.params.op3DpWriteCsw, s.params.dpCtrlPowerup⟩).cswRead
        busy := false })

/-- R160 to R164: ICEPICK_BRINGUP where every check passes; RESULT is unchanged. -/
def Obligations.BringupCommand : Prop :=
  ∀ s : State, s.quiet = true → s.initPins.idcodeOk = true → s.initPins.identified.connectOk = true →
    s.initPins.atRouters.routersOk s.params.routerWords = true →
    exec .icepickBringup s = .next { s.initPins.broughtUp with busy := false }

/-- R160, R165: the first check of bring-up that fails stops it with its own fault and the capture the check was on, after
the scan it was on. -/
def Obligations.BringupMismatches : Prop :=
  ∀ s : State, s.quiet = true →
    (s.initPins.idcodeOk = false →
      exec .icepickBringup s = .next { s.initPins.scanned .dr 32 0 with
        fault := true, faultCode := .tapIdcodeMismatch, faultValue := s.initPins.scanValue .dr 32, busy := false }) ∧
    (s.initPins.idcodeOk = true → s.initPins.identified.connectOk = false →
      exec .icepickBringup s = .next { s.initPins.identified.connected with
        fault := true, faultCode := .connectMismatch
        faultValue := s.initPins.identified.connectWritten.scanValue .dr 8, busy := false }) ∧
    (∀ (done : List Word) (w : Word) (left : List Word), s.params.routerWords = done ++ w :: left →
      s.initPins.idcodeOk = true → s.initPins.identified.connectOk = true →
      s.initPins.atRouters.routersOk done = true →
      (done.foldl State.routerConfigured s.initPins.atRouters).routerOk w = false →
      exec .icepickBringup s =
        .next { (done.foldl State.routerConfigured s.initPins.atRouters).routerReadBack w with
          fault := true, faultCode := .routerReadbackMismatch
          faultValue := ((done.foldl State.routerConfigured s.initPins.atRouters).routerWritten w).scanValue .dr 32
          busy := false })

/-! ## AP memory commands -/

/-- R230: AP_READ with OK acks and the expected DP CSW: its five transactions; RESULT is the data of the third. -/
def Obligations.ApReadCommand : Prop :=
  ∀ s : State, s.quiet = true →
    s.initPins.acksOk (readRequests s.params s.a0 ++ checkedReadRequests s.params) = true →
    (s.initPins.transactedAll (readRequests s.params s.a0)).cswRead = s.params.cswExpect →
    exec .apRead s = .next
      { s.initPins.transactedAll (readRequests s.params s.a0 ++ checkedReadRequests s.params) with
        result := (s.initPins.transactedAll (readRequests s.params s.a0)).dataOf ⟨s.params.dapIrDpacc, s.params.op3DpNop, 0⟩
        busy := false }

/-- R232: AP_WRITE with OK acks and the expected DP CSW: its five transactions; RESULT is unchanged. -/
def Obligations.ApWriteCommand : Prop :=
  ∀ s : State, s.quiet = true →
    s.initPins.acksOk (writeRequests s.params s.a0 s.a1 ++ checkedReadRequests s.params) = true →
    (s.initPins.transactedAll (writeRequests s.params s.a0 s.a1)).cswRead = s.params.cswExpect →
    exec .apWrite s = .next
      { s.initPins.transactedAll (writeRequests s.params s.a0 s.a1 ++ checkedReadRequests s.params) with busy := false }

/-- R60, R182, R280: on a target that keeps the pipeline contract, a command that is one DPACC or APACC transaction after
another one reports on that other one: it faults exactly where the status of that one is not OK, with that status, and
where it completes after a read, RESULT is the answer to that read. -/
def Obligations.TransactionReportsOnThePreviousOne : Prop :=
  ∀ (s t : State) (i : Instr) (r q : Request) (target : Target) (older : List Request), s.quiet = true →
    s.fault = false → i.wellFormed s.params = true → requestsOf s i = some [r] → r.ir ≠ s.params.dapIrAbort →
    keepsPipeline s.params target (q :: older) (s.initPins.exchanges [r]) → exec i s = .next t →
    (t.fault = true ↔ target.status (q :: older) ≠ s.params.ackOk) ∧
    (t.fault = true →
      t.faultCode = .ackMismatch ∧ t.faultValue = (target.status (q :: older)).setWidth 32 ∧ t.result = s.result) ∧
    (t.fault = false → q.isRead = true → t.result = target.answer (q :: older))

/-- R60, R182, R197, R230, R232: on such a target, the ack each transaction of a command checks is the status of the
transaction before it: where the command completes, every status it learnt is OK, and where it faults ACK_MISMATCH, it is
the last transaction it made that learnt one that is not, and the value is that status. The ack of a transaction with none
before it is any ack (R285). -/
def Obligations.AcksReportOnPreviousTransactions : Prop :=
  ∀ (s t : State) (i : Instr) (rs : List Request) (target : Target) (past : List Request), s.quiet = true →
    s.fault = false → i.wellFormed s.params = true → requestsOf s i = some rs →
    (∀ r ∈ rs, r.ir ≠ s.params.dapIrAbort) →
    keepsPipeline s.params target past (s.initPins.exchanges rs) → exec i s = .next t →
    (t.fault = false → ∀ k < rs.length, requestsBefore past rs k ≠ [] →
      target.status (requestsBefore past rs k) = s.params.ackOk) ∧
    (t.fault = true → t.faultCode = .ackMismatch → ∃ k < rs.length, (s.initPins.exchanges rs).length = k + 1 ∧
      (∀ j < k, requestsBefore past rs j ≠ [] → target.status (requestsBefore past rs j) = s.params.ackOk) ∧
      (requestsBefore past rs k ≠ [] → target.status (requestsBefore past rs k) ≠ s.params.ackOk ∧
        t.faultValue = (target.status (requestsBefore past rs k)).setWidth 32))

/-- R60, R182, R196, R231: on a target that keeps the pipeline contract, an AP_READ that completes returns the target's
answer to its DRW read request, made after its TAR write. (R91 makes AP_READ_DATA's op3 a read.) -/
def Obligations.ApReadReturnsTheBusRead : Prop :=
  ∀ (s t : State) (target : Target) (past : List Request), s.quiet = true → s.fault = false →
    s.params.dapIrApacc ≠ s.params.dapIrAbort → s.params.dapIrDpacc ≠ s.params.dapIrAbort →
    s.params.op3ApReadData.getLsbD 0 = true →
    keepsPipeline s.params target past
      (s.initPins.exchanges (readRequests s.params s.a0 ++ checkedReadRequests s.params)) →
    exec .apRead s = .next t → t.fault = false →
    t.result = target.answer (⟨s.params.dapIrApacc, s.params.op3ApReadData, 0⟩ ::
      ⟨s.params.dapIrApacc, s.params.op3ApWriteAddr, s.a0⟩ :: past)

/-- R60, R197: on such a target, a CHECKED_READ that completes after a read request returns that request's answer, and the
DP CSW it compared, the answer to its own DP_READ_CSW, was the expected one. -/
def Obligations.CheckedReadReturnsThePendingRead : Prop :=
  ∀ (s t : State) (target : Target) (pending : Request) (past : List Request), s.quiet = true →
    s.fault = false → s.params.dapIrDpacc ≠ s.params.dapIrAbort → pending.isRead = true →
    s.params.op3DpReadCsw.getLsbD 0 = true →
    keepsPipeline s.params target (pending :: past) (s.initPins.exchanges (checkedReadRequests s.params)) →
    exec .checkedRead s = .next t → t.fault = false →
    t.result = target.answer (pending :: past) ∧
    target.answer (⟨s.params.dapIrDpacc, s.params.op3DpReadCsw, 0⟩ :: ⟨s.params.dapIrDpacc, s.params.op3DpNop, 0⟩ ::
      pending :: past) = s.params.cswExpect

/-! ## Rules over all commands -/

/-- R33, R243: a command other than those R33 lists leaves RESULT unchanged, and so does any command that faults. -/
def Obligations.ResultWriters : Prop :=
  ∀ (i : Instr) (s t : State), s.quiet = true → s.fault = false → exec i s = .next t →
    (writesResult i = false ∨ t.fault = true) → t.result = s.result

/-- R39: what a command that completes leaves of the protocol state. -/
def Obligations.ProtocolStateWriters : Prop :=
  ∀ (i : Instr) (s t : State), s.quiet = true → s.fault = false → exec i s = .next t → t.fault = false →
    (t.tapState, t.shiftPhase, t.irValid, t.irCache) = protocolAfter s i

/-- R120, R243: no command, whether it completes or faults, writes ARG0, ARG1, its latched operands or OVERRUN, and the
block is not busy after it; it never changes what was on the pins before it. -/
def Obligations.CommandFrame : Prop :=
  ∀ (i : Instr) (s : State), s.quiet = true →
    ∃ t, exec i s = .next t ∧ t.busy = false ∧ t.arg0 = s.arg0 ∧ t.arg1 = s.arg1 ∧ t.a0 = s.a0 ∧ t.a1 = s.a1 ∧
      t.overrun = s.overrun ∧ t.params = s.params ∧ t.host = s.host ∧ t.responses = s.responses ∧
      ∃ made, t.trace = made ++ s.trace

/-- R88: a command whose row names no a0 does not read its latched a0, and none but AP_WRITE reads a1. -/
def Obligations.UnusedOperandsIgnored : Prop :=
  ∀ (i : Instr) (s t : State) (x y : Word), s.quiet = true → exec i s = .next t →
    (usesArg0 i = true → x = s.a0) → (i = .apWrite → y = s.a1) →
    exec i { s with a0 := x, a1 := y } = .next { t with a0 := x, a1 := y }

/-- R133, R291: the pulses of every command that completes, at the default lengths and counts. -/
def Obligations.PulseCounts : Prop :=
  ∀ (i : Instr) (s t : State), s.quiet = true → s.fault = false → defaultCounts s.params = true →
    exec i s = .next t → t.fault = false → tckPulses t.trace = tckPulses s.trace + pulseCount s i

/-- R244, R245: while the block is faulted and not busy, a step that is not a block reset changes nothing but ARG0, ARG1
and the host's side: no fault clears, no code changes, no pin moves. -/
def Obligations.FaultIsSticky : Prop :=
  ∀ (s t : State), s.params.inRange = true → s.fault = true → s.busy = false →
    (∀ e rest, s.host = e :: rest → e.act ≠ .rst) → step s = .next t →
    t = { s with arg0 := t.arg0, arg1 := t.arg1, host := t.host, responses := t.responses }

/-- The block's invariant holds right after reset. -/
def Obligations.InvariantAtReset : Prop := BlockInvariant State.reset

/-- R24, R26, R36, R120, R241: every step, with any host events inside it, keeps the block's invariant: the latches show
the last levels written, TCK is low and TRST released between commands, EXIT1 stands only in a scan, a valid IR cache
holds an access code, the fault code is NONE exactly while there is no fault, and the initialise request was made once,
before every other pin event. -/
def Obligations.InvariantKept : Prop := ∀ s t : State, BlockInvariant s → step s = .next t → BlockInvariant t

/-- R25: while the block's record of the TAP is true of the target's controller, every command keeps it true, whether it
completes or faults: the controller, walking the pin events the command makes by the table of R122, ends in the state
the block then believes it in. -/
def Obligations.TapRecordStaysTrue : Prop :=
  ∀ (i : Instr) (s : State) (v : TapView), s.quiet = true → s.believes v.ctl = true →
    ∃ t made v', exec i s = .next t ∧ t.trace = made ++ s.trace ∧ v.seeAll made = some v' ∧ t.believes v'.ctl = true

/-- R122, R123, R275: RESET's five pulses with TMS 1 bring the controller to Test-Logic-Reset from every state R122's table
has a row for (it has none for Pause-xR and Exit2-xR, which the block never enters), without the help of TRST, and the
block's record is true from then on. -/
def Obligations.ResetRestoresAgreement : Prop :=
  ∀ (s : State) (v : TapView), s.quiet = true → (∀ k, v.ctl ≠ .pause k) →
    ∃ t made v', exec .reset s = .next t ∧ t.trace = made ++ s.trace ∧
      v.seeAll (made.filter fun e => e != .drive .trst false) = some v' ∧ v'.ctl = .testLogicReset ∧
      t.believes v'.ctl = true
end

