-- ==== Sys2Proof/Laws/State.lean ====
section
/-! SUPPORT. What each named update of the state leaves in each field: one lemma per field per update. -/

namespace Sys2Proof.Machine

variable (s : State)

/-! Taking a fault. -/

@[simp] theorem takeFault_tapState (c : FaultCode) (v : Word) : (takeFault c v s).tapState = s.tapState := rfl
@[simp] theorem takeFault_shiftPhase (c : FaultCode) (v : Word) : (takeFault c v s).shiftPhase = s.shiftPhase := rfl
@[simp] theorem takeFault_irValid (c : FaultCode) (v : Word) : (takeFault c v s).irValid = s.irValid := rfl
@[simp] theorem takeFault_irCache (c : FaultCode) (v : Word) : (takeFault c v s).irCache = s.irCache := rfl
@[simp] theorem takeFault_fault (c : FaultCode) (v : Word) : (takeFault c v s).fault = true := rfl
@[simp] theorem takeFault_faultCode (c : FaultCode) (v : Word) : (takeFault c v s).faultCode = c := rfl
@[simp] theorem takeFault_faultValue (c : FaultCode) (v : Word) : (takeFault c v s).faultValue = v := rfl
@[simp] theorem takeFault_busy (c : FaultCode) (v : Word) : (takeFault c v s).busy = false := rfl
@[simp] theorem takeFault_overrun (c : FaultCode) (v : Word) : (takeFault c v s).overrun = s.overrun := rfl
@[simp] theorem takeFault_pinInitDone (c : FaultCode) (v : Word) : (takeFault c v s).pinInitDone = s.pinInitDone := rfl
@[simp] theorem takeFault_arg0 (c : FaultCode) (v : Word) : (takeFault c v s).arg0 = s.arg0 := rfl
@[simp] theorem takeFault_arg1 (c : FaultCode) (v : Word) : (takeFault c v s).arg1 = s.arg1 := rfl
@[simp] theorem takeFault_result (c : FaultCode) (v : Word) : (takeFault c v s).result = s.result := rfl
@[simp] theorem takeFault_a0 (c : FaultCode) (v : Word) : (takeFault c v s).a0 = s.a0 := rfl
@[simp] theorem takeFault_a1 (c : FaultCode) (v : Word) : (takeFault c v s).a1 = s.a1 := rfl
@[simp] theorem takeFault_pinTrst (c : FaultCode) (v : Word) : (takeFault c v s).pinTrst = s.pinTrst := rfl
@[simp] theorem takeFault_pinTck (c : FaultCode) (v : Word) : (takeFault c v s).pinTck = s.pinTck := rfl
@[simp] theorem takeFault_pinTms (c : FaultCode) (v : Word) : (takeFault c v s).pinTms = s.pinTms := rfl
@[simp] theorem takeFault_pinTdi (c : FaultCode) (v : Word) : (takeFault c v s).pinTdi = s.pinTdi := rfl
@[simp] theorem takeFault_params (c : FaultCode) (v : Word) : (takeFault c v s).params = s.params := rfl
@[simp] theorem takeFault_host (c : FaultCode) (v : Word) : (takeFault c v s).host = s.host := rfl
@[simp] theorem takeFault_tdo (c : FaultCode) (v : Word) : (takeFault c v s).tdo = s.tdo := rfl
@[simp] theorem takeFault_draws (c : FaultCode) (v : Word) : (takeFault c v s).draws = s.draws := rfl
@[simp] theorem takeFault_trace (c : FaultCode) (v : Word) : (takeFault c v s).trace = s.trace := rfl
@[simp] theorem takeFault_responses (c : FaultCode) (v : Word) : (takeFault c v s).responses = s.responses := rfl

/-! Block reset. -/

@[simp] theorem blockReset_tapState : (blockReset s).tapState = State.reset.tapState := rfl
@[simp] theorem blockReset_shiftPhase : (blockReset s).shiftPhase = State.reset.shiftPhase := rfl
@[simp] theorem blockReset_irValid : (blockReset s).irValid = State.reset.irValid := rfl
@[simp] theorem blockReset_irCache : (blockReset s).irCache = State.reset.irCache := rfl
@[simp] theorem blockReset_fault : (blockReset s).fault = State.reset.fault := rfl
@[simp] theorem blockReset_faultCode : (blockReset s).faultCode = State.reset.faultCode := rfl
@[simp] theorem blockReset_faultValue : (blockReset s).faultValue = State.reset.faultValue := rfl
@[simp] theorem blockReset_busy : (blockReset s).busy = State.reset.busy := rfl
@[simp] theorem blockReset_overrun : (blockReset s).overrun = State.reset.overrun := rfl
@[simp] theorem blockReset_pinInitDone : (blockReset s).pinInitDone = State.reset.pinInitDone := rfl
@[simp] theorem blockReset_arg0 : (blockReset s).arg0 = State.reset.arg0 := rfl
@[simp] theorem blockReset_arg1 : (blockReset s).arg1 = State.reset.arg1 := rfl
@[simp] theorem blockReset_result : (blockReset s).result = State.reset.result := rfl
@[simp] theorem blockReset_a0 : (blockReset s).a0 = State.reset.a0 := rfl
@[simp] theorem blockReset_a1 : (blockReset s).a1 = State.reset.a1 := rfl
@[simp] theorem blockReset_pinTrst : (blockReset s).pinTrst = State.reset.pinTrst := rfl
@[simp] theorem blockReset_pinTck : (blockReset s).pinTck = State.reset.pinTck := rfl
@[simp] theorem blockReset_pinTms : (blockReset s).pinTms = State.reset.pinTms := rfl
@[simp] theorem blockReset_pinTdi : (blockReset s).pinTdi = State.reset.pinTdi := rfl
@[simp] theorem blockReset_params : (blockReset s).params = s.params := rfl
@[simp] theorem blockReset_host : (blockReset s).host = s.host := rfl
@[simp] theorem blockReset_tdo : (blockReset s).tdo = s.tdo := rfl
@[simp] theorem blockReset_draws : (blockReset s).draws = s.draws := rfl
@[simp] theorem blockReset_trace : (blockReset s).trace = .latchReset :: s.trace := rfl
@[simp] theorem blockReset_responses : (blockReset s).responses = s.responses := rfl

/-! The TAP macro-state. -/

@[simp] theorem inTap_tapState (t : TapState) (ph : ShiftPhase) : (s.inTap t ph).tapState = t := rfl
@[simp] theorem inTap_shiftPhase (t : TapState) (ph : ShiftPhase) : (s.inTap t ph).shiftPhase = ph := rfl
@[simp] theorem inTap_irValid (t : TapState) (ph : ShiftPhase) : (s.inTap t ph).irValid = s.irValid := rfl
@[simp] theorem inTap_irCache (t : TapState) (ph : ShiftPhase) : (s.inTap t ph).irCache = s.irCache := rfl
@[simp] theorem inTap_fault (t : TapState) (ph : ShiftPhase) : (s.inTap t ph).fault = s.fault := rfl
@[simp] theorem inTap_faultCode (t : TapState) (ph : ShiftPhase) : (s.inTap t ph).faultCode = s.faultCode := rfl
@[simp] theorem inTap_faultValue (t : TapState) (ph : ShiftPhase) : (s.inTap t ph).faultValue = s.faultValue := rfl
@[simp] theorem inTap_busy (t : TapState) (ph : ShiftPhase) : (s.inTap t ph).busy = s.busy := rfl
@[simp] theorem inTap_overrun (t : TapState) (ph : ShiftPhase) : (s.inTap t ph).overrun = s.overrun := rfl
@[simp] theorem inTap_pinInitDone (t : TapState) (ph : ShiftPhase) : (s.inTap t ph).pinInitDone = s.pinInitDone := rfl
@[simp] theorem inTap_arg0 (t : TapState) (ph : ShiftPhase) : (s.inTap t ph).arg0 = s.arg0 := rfl
@[simp] theorem inTap_arg1 (t : TapState) (ph : ShiftPhase) : (s.inTap t ph).arg1 = s.arg1 := rfl
@[simp] theorem inTap_result (t : TapState) (ph : ShiftPhase) : (s.inTap t ph).result = s.result := rfl
@[simp] theorem inTap_a0 (t : TapState) (ph : ShiftPhase) : (s.inTap t ph).a0 = s.a0 := rfl
@[simp] theorem inTap_a1 (t : TapState) (ph : ShiftPhase) : (s.inTap t ph).a1 = s.a1 := rfl
@[simp] theorem inTap_pinTrst (t : TapState) (ph : ShiftPhase) : (s.inTap t ph).pinTrst = s.pinTrst := rfl
@[simp] theorem inTap_pinTck (t : TapState) (ph : ShiftPhase) : (s.inTap t ph).pinTck = s.pinTck := rfl
@[simp] theorem inTap_pinTms (t : TapState) (ph : ShiftPhase) : (s.inTap t ph).pinTms = s.pinTms := rfl
@[simp] theorem inTap_pinTdi (t : TapState) (ph : ShiftPhase) : (s.inTap t ph).pinTdi = s.pinTdi := rfl
@[simp] theorem inTap_params (t : TapState) (ph : ShiftPhase) : (s.inTap t ph).params = s.params := rfl
@[simp] theorem inTap_host (t : TapState) (ph : ShiftPhase) : (s.inTap t ph).host = s.host := rfl
@[simp] theorem inTap_tdo (t : TapState) (ph : ShiftPhase) : (s.inTap t ph).tdo = s.tdo := rfl
@[simp] theorem inTap_draws (t : TapState) (ph : ShiftPhase) : (s.inTap t ph).draws = s.draws := rfl
@[simp] theorem inTap_trace (t : TapState) (ph : ShiftPhase) : (s.inTap t ph).trace = s.trace := rfl
@[simp] theorem inTap_responses (t : TapState) (ph : ShiftPhase) : (s.inTap t ph).responses = s.responses := rfl

/-! The IR cache invalidated. -/

@[simp] theorem forgetIr_tapState : (s.forgetIr).tapState = s.tapState := rfl
@[simp] theorem forgetIr_shiftPhase : (s.forgetIr).shiftPhase = s.shiftPhase := rfl
@[simp] theorem forgetIr_irValid : (s.forgetIr).irValid = false := rfl
@[simp] theorem forgetIr_irCache : (s.forgetIr).irCache = s.irCache := rfl
@[simp] theorem forgetIr_fault : (s.forgetIr).fault = s.fault := rfl
@[simp] theorem forgetIr_faultCode : (s.forgetIr).faultCode = s.faultCode := rfl
@[simp] theorem forgetIr_faultValue : (s.forgetIr).faultValue = s.faultValue := rfl
@[simp] theorem forgetIr_busy : (s.forgetIr).busy = s.busy := rfl
@[simp] theorem forgetIr_overrun : (s.forgetIr).overrun = s.overrun := rfl
@[simp] theorem forgetIr_pinInitDone : (s.forgetIr).pinInitDone = s.pinInitDone := rfl
@[simp] theorem forgetIr_arg0 : (s.forgetIr).arg0 = s.arg0 := rfl
@[simp] theorem forgetIr_arg1 : (s.forgetIr).arg1 = s.arg1 := rfl
@[simp] theorem forgetIr_result : (s.forgetIr).result = s.result := rfl
@[simp] theorem forgetIr_a0 : (s.forgetIr).a0 = s.a0 := rfl
@[simp] theorem forgetIr_a1 : (s.forgetIr).a1 = s.a1 := rfl
@[simp] theorem forgetIr_pinTrst : (s.forgetIr).pinTrst = s.pinTrst := rfl
@[simp] theorem forgetIr_pinTck : (s.forgetIr).pinTck = s.pinTck := rfl
@[simp] theorem forgetIr_pinTms : (s.forgetIr).pinTms = s.pinTms := rfl
@[simp] theorem forgetIr_pinTdi : (s.forgetIr).pinTdi = s.pinTdi := rfl
@[simp] theorem forgetIr_params : (s.forgetIr).params = s.params := rfl
@[simp] theorem forgetIr_host : (s.forgetIr).host = s.host := rfl
@[simp] theorem forgetIr_tdo : (s.forgetIr).tdo = s.tdo := rfl
@[simp] theorem forgetIr_draws : (s.forgetIr).draws = s.draws := rfl
@[simp] theorem forgetIr_trace : (s.forgetIr).trace = s.trace := rfl
@[simp] theorem forgetIr_responses : (s.forgetIr).responses = s.responses := rfl

/-! The IR cache filled. -/

@[simp] theorem cacheIr_tapState (c : BitVec 4) : (s.cacheIr c).tapState = s.tapState := rfl
@[simp] theorem cacheIr_shiftPhase (c : BitVec 4) : (s.cacheIr c).shiftPhase = s.shiftPhase := rfl
@[simp] theorem cacheIr_irValid (c : BitVec 4) : (s.cacheIr c).irValid = true := rfl
@[simp] theorem cacheIr_irCache (c : BitVec 4) : (s.cacheIr c).irCache = c := rfl
@[simp] theorem cacheIr_fault (c : BitVec 4) : (s.cacheIr c).fault = s.fault := rfl
@[simp] theorem cacheIr_faultCode (c : BitVec 4) : (s.cacheIr c).faultCode = s.faultCode := rfl
@[simp] theorem cacheIr_faultValue (c : BitVec 4) : (s.cacheIr c).faultValue = s.faultValue := rfl
@[simp] theorem cacheIr_busy (c : BitVec 4) : (s.cacheIr c).busy = s.busy := rfl
@[simp] theorem cacheIr_overrun (c : BitVec 4) : (s.cacheIr c).overrun = s.overrun := rfl
@[simp] theorem cacheIr_pinInitDone (c : BitVec 4) : (s.cacheIr c).pinInitDone = s.pinInitDone := rfl
@[simp] theorem cacheIr_arg0 (c : BitVec 4) : (s.cacheIr c).arg0 = s.arg0 := rfl
@[simp] theorem cacheIr_arg1 (c : BitVec 4) : (s.cacheIr c).arg1 = s.arg1 := rfl
@[simp] theorem cacheIr_result (c : BitVec 4) : (s.cacheIr c).result = s.result := rfl
@[simp] theorem cacheIr_a0 (c : BitVec 4) : (s.cacheIr c).a0 = s.a0 := rfl
@[simp] theorem cacheIr_a1 (c : BitVec 4) : (s.cacheIr c).a1 = s.a1 := rfl
@[simp] theorem cacheIr_pinTrst (c : BitVec 4) : (s.cacheIr c).pinTrst = s.pinTrst := rfl
@[simp] theorem cacheIr_pinTck (c : BitVec 4) : (s.cacheIr c).pinTck = s.pinTck := rfl
@[simp] theorem cacheIr_pinTms (c : BitVec 4) : (s.cacheIr c).pinTms = s.pinTms := rfl
@[simp] theorem cacheIr_pinTdi (c : BitVec 4) : (s.cacheIr c).pinTdi = s.pinTdi := rfl
@[simp] theorem cacheIr_params (c : BitVec 4) : (s.cacheIr c).params = s.params := rfl
@[simp] theorem cacheIr_host (c : BitVec 4) : (s.cacheIr c).host = s.host := rfl
@[simp] theorem cacheIr_tdo (c : BitVec 4) : (s.cacheIr c).tdo = s.tdo := rfl
@[simp] theorem cacheIr_draws (c : BitVec 4) : (s.cacheIr c).draws = s.draws := rfl
@[simp] theorem cacheIr_trace (c : BitVec 4) : (s.cacheIr c).trace = s.trace := rfl
@[simp] theorem cacheIr_responses (c : BitVec 4) : (s.cacheIr c).responses = s.responses := rfl

/-! Completion. -/

@[simp] theorem complete_tapState (r : Option Word) : (s.complete r).tapState = s.tapState := rfl
@[simp] theorem complete_shiftPhase (r : Option Word) : (s.complete r).shiftPhase = s.shiftPhase := rfl
@[simp] theorem complete_irValid (r : Option Word) : (s.complete r).irValid = s.irValid := rfl
@[simp] theorem complete_irCache (r : Option Word) : (s.complete r).irCache = s.irCache := rfl
@[simp] theorem complete_fault (r : Option Word) : (s.complete r).fault = s.fault := rfl
@[simp] theorem complete_faultCode (r : Option Word) : (s.complete r).faultCode = s.faultCode := rfl
@[simp] theorem complete_faultValue (r : Option Word) : (s.complete r).faultValue = s.faultValue := rfl
@[simp] theorem complete_busy (r : Option Word) : (s.complete r).busy = false := rfl
@[simp] theorem complete_overrun (r : Option Word) : (s.complete r).overrun = s.overrun := rfl
@[simp] theorem complete_pinInitDone (r : Option Word) : (s.complete r).pinInitDone = s.pinInitDone := rfl
@[simp] theorem complete_arg0 (r : Option Word) : (s.complete r).arg0 = s.arg0 := rfl
@[simp] theorem complete_arg1 (r : Option Word) : (s.complete r).arg1 = s.arg1 := rfl
@[simp] theorem complete_result (r : Option Word) : (s.complete r).result = r.getD s.result := rfl
@[simp] theorem complete_a0 (r : Option Word) : (s.complete r).a0 = s.a0 := rfl
@[simp] theorem complete_a1 (r : Option Word) : (s.complete r).a1 = s.a1 := rfl
@[simp] theorem complete_pinTrst (r : Option Word) : (s.complete r).pinTrst = s.pinTrst := rfl
@[simp] theorem complete_pinTck (r : Option Word) : (s.complete r).pinTck = s.pinTck := rfl
@[simp] theorem complete_pinTms (r : Option Word) : (s.complete r).pinTms = s.pinTms := rfl
@[simp] theorem complete_pinTdi (r : Option Word) : (s.complete r).pinTdi = s.pinTdi := rfl
@[simp] theorem complete_params (r : Option Word) : (s.complete r).params = s.params := rfl
@[simp] theorem complete_host (r : Option Word) : (s.complete r).host = s.host := rfl
@[simp] theorem complete_tdo (r : Option Word) : (s.complete r).tdo = s.tdo := rfl
@[simp] theorem complete_draws (r : Option Word) : (s.complete r).draws = s.draws := rfl
@[simp] theorem complete_trace (r : Option Word) : (s.complete r).trace = s.trace := rfl
@[simp] theorem complete_responses (r : Option Word) : (s.complete r).responses = s.responses := rfl

/-! Acceptance. -/

@[simp] theorem accepted_tapState : (s.accepted).tapState = s.tapState := rfl
@[simp] theorem accepted_shiftPhase : (s.accepted).shiftPhase = s.shiftPhase := rfl
@[simp] theorem accepted_irValid : (s.accepted).irValid = s.irValid := rfl
@[simp] theorem accepted_irCache : (s.accepted).irCache = s.irCache := rfl
@[simp] theorem accepted_fault : (s.accepted).fault = s.fault := rfl
@[simp] theorem accepted_faultCode : (s.accepted).faultCode = s.faultCode := rfl
@[simp] theorem accepted_faultValue : (s.accepted).faultValue = s.faultValue := rfl
@[simp] theorem accepted_busy : (s.accepted).busy = true := rfl
@[simp] theorem accepted_overrun : (s.accepted).overrun = s.overrun := rfl
@[simp] theorem accepted_pinInitDone : (s.accepted).pinInitDone = s.pinInitDone := rfl
@[simp] theorem accepted_arg0 : (s.accepted).arg0 = s.arg0 := rfl
@[simp] theorem accepted_arg1 : (s.accepted).arg1 = s.arg1 := rfl
@[simp] theorem accepted_result : (s.accepted).result = s.result := rfl
@[simp] theorem accepted_a0 : (s.accepted).a0 = s.arg0 := rfl
@[simp] theorem accepted_a1 : (s.accepted).a1 = s.arg1 := rfl
@[simp] theorem accepted_pinTrst : (s.accepted).pinTrst = s.pinTrst := rfl
@[simp] theorem accepted_pinTck : (s.accepted).pinTck = s.pinTck := rfl
@[simp] theorem accepted_pinTms : (s.accepted).pinTms = s.pinTms := rfl
@[simp] theorem accepted_pinTdi : (s.accepted).pinTdi = s.pinTdi := rfl
@[simp] theorem accepted_params : (s.accepted).params = s.params := rfl
@[simp] theorem accepted_host : (s.accepted).host = s.host := rfl
@[simp] theorem accepted_tdo : (s.accepted).tdo = s.tdo := rfl
@[simp] theorem accepted_draws : (s.accepted).draws = s.draws := rfl
@[simp] theorem accepted_trace : (s.accepted).trace = s.trace := rfl
@[simp] theorem accepted_responses : (s.accepted).responses = s.responses := rfl

/-! An output latch. -/

@[simp] theorem drive_tapState (p : Pin) (b : Bool) : (s.drive p b).tapState = s.tapState := by cases p <;> rfl
@[simp] theorem drive_shiftPhase (p : Pin) (b : Bool) : (s.drive p b).shiftPhase = s.shiftPhase := by cases p <;> rfl
@[simp] theorem drive_irValid (p : Pin) (b : Bool) : (s.drive p b).irValid = s.irValid := by cases p <;> rfl
@[simp] theorem drive_irCache (p : Pin) (b : Bool) : (s.drive p b).irCache = s.irCache := by cases p <;> rfl
@[simp] theorem drive_fault (p : Pin) (b : Bool) : (s.drive p b).fault = s.fault := by cases p <;> rfl
@[simp] theorem drive_faultCode (p : Pin) (b : Bool) : (s.drive p b).faultCode = s.faultCode := by cases p <;> rfl
@[simp] theorem drive_faultValue (p : Pin) (b : Bool) : (s.drive p b).faultValue = s.faultValue := by cases p <;> rfl
@[simp] theorem drive_busy (p : Pin) (b : Bool) : (s.drive p b).busy = s.busy := by cases p <;> rfl
@[simp] theorem drive_overrun (p : Pin) (b : Bool) : (s.drive p b).overrun = s.overrun := by cases p <;> rfl
@[simp] theorem drive_pinInitDone (p : Pin) (b : Bool) : (s.drive p b).pinInitDone = s.pinInitDone := by cases p <;> rfl
@[simp] theorem drive_arg0 (p : Pin) (b : Bool) : (s.drive p b).arg0 = s.arg0 := by cases p <;> rfl
@[simp] theorem drive_arg1 (p : Pin) (b : Bool) : (s.drive p b).arg1 = s.arg1 := by cases p <;> rfl
@[simp] theorem drive_result (p : Pin) (b : Bool) : (s.drive p b).result = s.result := by cases p <;> rfl
@[simp] theorem drive_a0 (p : Pin) (b : Bool) : (s.drive p b).a0 = s.a0 := by cases p <;> rfl
@[simp] theorem drive_a1 (p : Pin) (b : Bool) : (s.drive p b).a1 = s.a1 := by cases p <;> rfl
@[simp] theorem drive_pinTrst (p : Pin) (b : Bool) : (s.drive p b).pinTrst = if p = .trst then b else s.pinTrst := by cases p <;> rfl
@[simp] theorem drive_pinTck (p : Pin) (b : Bool) : (s.drive p b).pinTck = if p = .tck then b else s.pinTck := by cases p <;> rfl
@[simp] theorem drive_pinTms (p : Pin) (b : Bool) : (s.drive p b).pinTms = if p = .tms then b else s.pinTms := by cases p <;> rfl
@[simp] theorem drive_pinTdi (p : Pin) (b : Bool) : (s.drive p b).pinTdi = if p = .tdi then b else s.pinTdi := by cases p <;> rfl
@[simp] theorem drive_params (p : Pin) (b : Bool) : (s.drive p b).params = s.params := by cases p <;> rfl
@[simp] theorem drive_host (p : Pin) (b : Bool) : (s.drive p b).host = s.host := by cases p <;> rfl
@[simp] theorem drive_tdo (p : Pin) (b : Bool) : (s.drive p b).tdo = s.tdo := by cases p <;> rfl
@[simp] theorem drive_draws (p : Pin) (b : Bool) : (s.drive p b).draws = s.draws := by cases p <;> rfl
@[simp] theorem drive_trace (p : Pin) (b : Bool) : (s.drive p b).trace = .drive p b :: s.trace := by cases p <;> rfl
@[simp] theorem drive_responses (p : Pin) (b : Bool) : (s.drive p b).responses = s.responses := by cases p <;> rfl

/-! A TDO sample. -/

@[simp] theorem sampled_tapState : (s.sampled).tapState = s.tapState := rfl
@[simp] theorem sampled_shiftPhase : (s.sampled).shiftPhase = s.shiftPhase := rfl
@[simp] theorem sampled_irValid : (s.sampled).irValid = s.irValid := rfl
@[simp] theorem sampled_irCache : (s.sampled).irCache = s.irCache := rfl
@[simp] theorem sampled_fault : (s.sampled).fault = s.fault := rfl
@[simp] theorem sampled_faultCode : (s.sampled).faultCode = s.faultCode := rfl
@[simp] theorem sampled_faultValue : (s.sampled).faultValue = s.faultValue := rfl
@[simp] theorem sampled_busy : (s.sampled).busy = s.busy := rfl
@[simp] theorem sampled_overrun : (s.sampled).overrun = s.overrun := rfl
@[simp] theorem sampled_pinInitDone : (s.sampled).pinInitDone = s.pinInitDone := rfl
@[simp] theorem sampled_arg0 : (s.sampled).arg0 = s.arg0 := rfl
@[simp] theorem sampled_arg1 : (s.sampled).arg1 = s.arg1 := rfl
@[simp] theorem sampled_result : (s.sampled).result = s.result := rfl
@[simp] theorem sampled_a0 : (s.sampled).a0 = s.a0 := rfl
@[simp] theorem sampled_a1 : (s.sampled).a1 = s.a1 := rfl
@[simp] theorem sampled_pinTrst : (s.sampled).pinTrst = s.pinTrst := rfl
@[simp] theorem sampled_pinTck : (s.sampled).pinTck = s.pinTck := rfl
@[simp] theorem sampled_pinTms : (s.sampled).pinTms = s.pinTms := rfl
@[simp] theorem sampled_pinTdi : (s.sampled).pinTdi = s.pinTdi := rfl
@[simp] theorem sampled_params : (s.sampled).params = s.params := rfl
@[simp] theorem sampled_host : (s.sampled).host = s.host := rfl
@[simp] theorem sampled_tdo : (s.sampled).tdo = s.tdo.tail := rfl
@[simp] theorem sampled_draws : (s.sampled).draws = if s.tdo.isEmpty then s.draws + 1 else s.draws := rfl
@[simp] theorem sampled_trace : (s.sampled).trace = .sample s.nextTdo :: s.trace := rfl
@[simp] theorem sampled_responses : (s.sampled).responses = s.responses := rfl

/-! The initialise request. -/

@[simp] theorem initPins_tapState : (s.initPins).tapState = s.tapState := by unfold State.initPins; split <;> simp_all
@[simp] theorem initPins_shiftPhase : (s.initPins).shiftPhase = s.shiftPhase := by unfold State.initPins; split <;> simp_all
@[simp] theorem initPins_irValid : (s.initPins).irValid = s.irValid := by unfold State.initPins; split <;> simp_all
@[simp] theorem initPins_irCache : (s.initPins).irCache = s.irCache := by unfold State.initPins; split <;> simp_all
@[simp] theorem initPins_fault : (s.initPins).fault = s.fault := by unfold State.initPins; split <;> simp_all
@[simp] theorem initPins_faultCode : (s.initPins).faultCode = s.faultCode := by unfold State.initPins; split <;> simp_all
@[simp] theorem initPins_faultValue : (s.initPins).faultValue = s.faultValue := by unfold State.initPins; split <;> simp_all
@[simp] theorem initPins_busy : (s.initPins).busy = s.busy := by unfold State.initPins; split <;> simp_all
@[simp] theorem initPins_overrun : (s.initPins).overrun = s.overrun := by unfold State.initPins; split <;> simp_all
@[simp] theorem initPins_pinInitDone : (s.initPins).pinInitDone = true := by unfold State.initPins; split <;> simp_all
@[simp] theorem initPins_arg0 : (s.initPins).arg0 = s.arg0 := by unfold State.initPins; split <;> simp_all
@[simp] theorem initPins_arg1 : (s.initPins).arg1 = s.arg1 := by unfold State.initPins; split <;> simp_all
@[simp] theorem initPins_result : (s.initPins).result = s.result := by unfold State.initPins; split <;> simp_all
@[simp] theorem initPins_a0 : (s.initPins).a0 = s.a0 := by unfold State.initPins; split <;> simp_all
@[simp] theorem initPins_a1 : (s.initPins).a1 = s.a1 := by unfold State.initPins; split <;> simp_all
@[simp] theorem initPins_pinTrst : (s.initPins).pinTrst = s.pinTrst := by unfold State.initPins; split <;> simp_all
@[simp] theorem initPins_pinTck : (s.initPins).pinTck = s.pinTck := by unfold State.initPins; split <;> simp_all
@[simp] theorem initPins_pinTms : (s.initPins).pinTms = s.pinTms := by unfold State.initPins; split <;> simp_all
@[simp] theorem initPins_pinTdi : (s.initPins).pinTdi = s.pinTdi := by unfold State.initPins; split <;> simp_all
@[simp] theorem initPins_params : (s.initPins).params = s.params := by unfold State.initPins; split <;> simp_all
@[simp] theorem initPins_host : (s.initPins).host = s.host := by unfold State.initPins; split <;> simp_all
@[simp] theorem initPins_tdo : (s.initPins).tdo = s.tdo := by unfold State.initPins; split <;> simp_all
@[simp] theorem initPins_draws : (s.initPins).draws = s.draws := by unfold State.initPins; split <;> simp_all
@[simp] theorem initPins_trace : (s.initPins).trace = if s.pinInitDone then s.trace else .pinInit :: s.trace := by unfold State.initPins; split <;> simp_all
@[simp] theorem initPins_responses : (s.initPins).responses = s.responses := by unfold State.initPins; split <;> simp_all

/-! The end of a SHIFT. -/

@[simp] theorem endShift_tapState (n : Nat) (l : Bool) : (s.endShift n l).tapState = s.tapState := by unfold State.endShift; split <;> simp_all
@[simp] theorem endShift_shiftPhase (n : Nat) (l : Bool) : (s.endShift n l).shiftPhase = if l && n != 0 then .exit1 else s.shiftPhase := by unfold State.endShift; split <;> simp_all
@[simp] theorem endShift_irValid (n : Nat) (l : Bool) : (s.endShift n l).irValid = s.irValid := by unfold State.endShift; split <;> simp_all
@[simp] theorem endShift_irCache (n : Nat) (l : Bool) : (s.endShift n l).irCache = s.irCache := by unfold State.endShift; split <;> simp_all
@[simp] theorem endShift_fault (n : Nat) (l : Bool) : (s.endShift n l).fault = s.fault := by unfold State.endShift; split <;> simp_all
@[simp] theorem endShift_faultCode (n : Nat) (l : Bool) : (s.endShift n l).faultCode = s.faultCode := by unfold State.endShift; split <;> simp_all
@[simp] theorem endShift_faultValue (n : Nat) (l : Bool) : (s.endShift n l).faultValue = s.faultValue := by unfold State.endShift; split <;> simp_all
@[simp] theorem endShift_busy (n : Nat) (l : Bool) : (s.endShift n l).busy = s.busy := by unfold State.endShift; split <;> simp_all
@[simp] theorem endShift_overrun (n : Nat) (l : Bool) : (s.endShift n l).overrun = s.overrun := by unfold State.endShift; split <;> simp_all
@[simp] theorem endShift_pinInitDone (n : Nat) (l : Bool) : (s.endShift n l).pinInitDone = s.pinInitDone := by unfold State.endShift; split <;> simp_all
@[simp] theorem endShift_arg0 (n : Nat) (l : Bool) : (s.endShift n l).arg0 = s.arg0 := by unfold State.endShift; split <;> simp_all
@[simp] theorem endShift_arg1 (n : Nat) (l : Bool) : (s.endShift n l).arg1 = s.arg1 := by unfold State.endShift; split <;> simp_all
@[simp] theorem endShift_result (n : Nat) (l : Bool) : (s.endShift n l).result = s.result := by unfold State.endShift; split <;> simp_all
@[simp] theorem endShift_a0 (n : Nat) (l : Bool) : (s.endShift n l).a0 = s.a0 := by unfold State.endShift; split <;> simp_all
@[simp] theorem endShift_a1 (n : Nat) (l : Bool) : (s.endShift n l).a1 = s.a1 := by unfold State.endShift; split <;> simp_all
@[simp] theorem endShift_pinTrst (n : Nat) (l : Bool) : (s.endShift n l).pinTrst = s.pinTrst := by unfold State.endShift; split <;> simp_all
@[simp] theorem endShift_pinTck (n : Nat) (l : Bool) : (s.endShift n l).pinTck = s.pinTck := by unfold State.endShift; split <;> simp_all
@[simp] theorem endShift_pinTms (n : Nat) (l : Bool) : (s.endShift n l).pinTms = s.pinTms := by unfold State.endShift; split <;> simp_all
@[simp] theorem endShift_pinTdi (n : Nat) (l : Bool) : (s.endShift n l).pinTdi = s.pinTdi := by unfold State.endShift; split <;> simp_all
@[simp] theorem endShift_params (n : Nat) (l : Bool) : (s.endShift n l).params = s.params := by unfold State.endShift; split <;> simp_all
@[simp] theorem endShift_host (n : Nat) (l : Bool) : (s.endShift n l).host = s.host := by unfold State.endShift; split <;> simp_all
@[simp] theorem endShift_tdo (n : Nat) (l : Bool) : (s.endShift n l).tdo = s.tdo := by unfold State.endShift; split <;> simp_all
@[simp] theorem endShift_draws (n : Nat) (l : Bool) : (s.endShift n l).draws = s.draws := by unfold State.endShift; split <;> simp_all
@[simp] theorem endShift_trace (n : Nat) (l : Bool) : (s.endShift n l).trace = s.trace := by unfold State.endShift; split <;> simp_all
@[simp] theorem endShift_responses (n : Nat) (l : Bool) : (s.endShift n l).responses = s.responses := by unfold State.endShift; split <;> simp_all

/-! One pulse. -/

@[simp] theorem afterPulse_tapState (q : Pulse) : (s.afterPulse q).tapState = s.tapState := rfl
@[simp] theorem afterPulse_shiftPhase (q : Pulse) : (s.afterPulse q).shiftPhase = s.shiftPhase := rfl
@[simp] theorem afterPulse_irValid (q : Pulse) : (s.afterPulse q).irValid = s.irValid := rfl
@[simp] theorem afterPulse_irCache (q : Pulse) : (s.afterPulse q).irCache = s.irCache := rfl
@[simp] theorem afterPulse_fault (q : Pulse) : (s.afterPulse q).fault = s.fault := rfl
@[simp] theorem afterPulse_faultCode (q : Pulse) : (s.afterPulse q).faultCode = s.faultCode := rfl
@[simp] theorem afterPulse_faultValue (q : Pulse) : (s.afterPulse q).faultValue = s.faultValue := rfl
@[simp] theorem afterPulse_busy (q : Pulse) : (s.afterPulse q).busy = s.busy := rfl
@[simp] theorem afterPulse_overrun (q : Pulse) : (s.afterPulse q).overrun = s.overrun := rfl
@[simp] theorem afterPulse_pinInitDone (q : Pulse) : (s.afterPulse q).pinInitDone = s.pinInitDone := rfl
@[simp] theorem afterPulse_arg0 (q : Pulse) : (s.afterPulse q).arg0 = s.arg0 := rfl
@[simp] theorem afterPulse_arg1 (q : Pulse) : (s.afterPulse q).arg1 = s.arg1 := rfl
@[simp] theorem afterPulse_result (q : Pulse) : (s.afterPulse q).result = s.result := rfl
@[simp] theorem afterPulse_a0 (q : Pulse) : (s.afterPulse q).a0 = s.a0 := rfl
@[simp] theorem afterPulse_a1 (q : Pulse) : (s.afterPulse q).a1 = s.a1 := rfl
@[simp] theorem afterPulse_pinTrst (q : Pulse) : (s.afterPulse q).pinTrst = s.pinTrst := rfl
@[simp] theorem afterPulse_pinTck (q : Pulse) : (s.afterPulse q).pinTck = false := rfl
@[simp] theorem afterPulse_pinTms (q : Pulse) : (s.afterPulse q).pinTms = q.1 := rfl
@[simp] theorem afterPulse_pinTdi (q : Pulse) : (s.afterPulse q).pinTdi = q.2 := rfl
@[simp] theorem afterPulse_params (q : Pulse) : (s.afterPulse q).params = s.params := rfl
@[simp] theorem afterPulse_host (q : Pulse) : (s.afterPulse q).host = s.host := rfl
@[simp] theorem afterPulse_tdo (q : Pulse) : (s.afterPulse q).tdo = s.tdo.tail := rfl
@[simp] theorem afterPulse_draws (q : Pulse) : (s.afterPulse q).draws = if s.tdo.isEmpty then s.draws + 1 else s.draws := rfl
@[simp] theorem afterPulse_trace (q : Pulse) : (s.afterPulse q).trace = pulseEvents q.1 q.2 s.nextTdo ++ s.trace := rfl
@[simp] theorem afterPulse_responses (q : Pulse) : (s.afterPulse q).responses = s.responses := rfl

/-! A list of pulses: every field but the pins, the environment and the trace is as before. -/

@[simp] theorem pulsed_nil : s.pulsed [] = s := rfl
@[simp] theorem pulsed_cons (q : Pulse) (qs : List Pulse) : s.pulsed (q :: qs) = (s.afterPulse q).pulsed qs := rfl
theorem pulsed_append (qs rs : List Pulse) : s.pulsed (qs ++ rs) = (s.pulsed qs).pulsed rs := by
  simp [State.pulsed]
@[simp] theorem pulsed_tapState (qs : List Pulse) : (s.pulsed qs).tapState = s.tapState := by
  induction qs generalizing s <;> simp_all
@[simp] theorem pulsed_shiftPhase (qs : List Pulse) : (s.pulsed qs).shiftPhase = s.shiftPhase := by
  induction qs generalizing s <;> simp_all
@[simp] theorem pulsed_irValid (qs : List Pulse) : (s.pulsed qs).irValid = s.irValid := by
  induction qs generalizing s <;> simp_all
@[simp] theorem pulsed_irCache (qs : List Pulse) : (s.pulsed qs).irCache = s.irCache := by
  induction qs generalizing s <;> simp_all
@[simp] theorem pulsed_fault (qs : List Pulse) : (s.pulsed qs).fault = s.fault := by
  induction qs generalizing s <;> simp_all
@[simp] theorem pulsed_faultCode (qs : List Pulse) : (s.pulsed qs).faultCode = s.faultCode := by
  induction qs generalizing s <;> simp_all
@[simp] theorem pulsed_faultValue (qs : List Pulse) : (s.pulsed qs).faultValue = s.faultValue := by
  induction qs generalizing s <;> simp_all
@[simp] theorem pulsed_busy (qs : List Pulse) : (s.pulsed qs).busy = s.busy := by
  induction qs generalizing s <;> simp_all
@[simp] theorem pulsed_overrun (qs : List Pulse) : (s.pulsed qs).overrun = s.overrun := by
  induction qs generalizing s <;> simp_all
@[simp] theorem pulsed_pinInitDone (qs : List Pulse) : (s.pulsed qs).pinInitDone = s.pinInitDone := by
  induction qs generalizing s <;> simp_all
@[simp] theorem pulsed_arg0 (qs : List Pulse) : (s.pulsed qs).arg0 = s.arg0 := by
  induction qs generalizing s <;> simp_all
@[simp] theorem pulsed_arg1 (qs : List Pulse) : (s.pulsed qs).arg1 = s.arg1 := by
  induction qs generalizing s <;> simp_all
@[simp] theorem pulsed_result (qs : List Pulse) : (s.pulsed qs).result = s.result := by
  induction qs generalizing s <;> simp_all
@[simp] theorem pulsed_a0 (qs : List Pulse) : (s.pulsed qs).a0 = s.a0 := by
  induction qs generalizing s <;> simp_all
@[simp] theorem pulsed_a1 (qs : List Pulse) : (s.pulsed qs).a1 = s.a1 := by
  induction qs generalizing s <;> simp_all
@[simp] theorem pulsed_pinTrst (qs : List Pulse) : (s.pulsed qs).pinTrst = s.pinTrst := by
  induction qs generalizing s <;> simp_all
@[simp] theorem pulsed_params (qs : List Pulse) : (s.pulsed qs).params = s.params := by
  induction qs generalizing s <;> simp_all
@[simp] theorem pulsed_host (qs : List Pulse) : (s.pulsed qs).host = s.host := by
  induction qs generalizing s <;> simp_all
@[simp] theorem pulsed_responses (qs : List Pulse) : (s.pulsed qs).responses = s.responses := by
  induction qs generalizing s <;> simp_all

/-! ## Host addresses -/

@[simp] theorem offsetOf_base_add (s : State) (offset : Word) : s.offsetOf (s.params.blockBase + offset) = offset := by
  simp [State.offsetOf, BitVec.add_comm]

@[simp] theorem offsetOf_base (s : State) : s.offsetOf s.params.blockBase = 0 := by simp [State.offsetOf]

@[simp] theorem hostAccess_params (a : Access) (s : State) : (hostAccess a s).params = s.params := by
  unfold hostAccess writeRegister
  repeat' split
  all_goals rfl

end Sys2Proof.Machine
end

