-- ==== Sys2Proof/Laws/Ops.lean ====
section
/-! SUPPORT. What each shared operation does, said once: the laws of procedures, then, for a state in which no host event
is due inside the command, the one result of each operation of Machine/Ops.lean. -/

namespace Sys2Proof.Machine

/-! ## Running a procedure -/

theorem proc_bind {α β : Type} (m : Proc α) (f : α → Proc β) (s : State) :
    (m >>= f) s = match m s with
      | .ok a t => f a t
      | .error e t => .error e t := by
  have h := EStateM.run_bind (s := s) m f
  simp only [EStateM.run] at h
  rw [h]
  cases m s <;> rfl

theorem proc_bind_ok {α β : Type} {m : Proc α} {f : α → Proc β} {s t : State} {a : α} (h : m s = .ok a t) :
    (m >>= f) s = f a t := by rw [proc_bind, h]

theorem proc_bind_error {α β : Type} {m : Proc α} {f : α → Proc β} {s t : State} {e : Stop}
    (h : m s = .error e t) : (m >>= f) s = .error e t := by rw [proc_bind, h]

theorem proc_pure {α : Type} (a : α) (s : State) : (pure a : Proc α) s = .ok a s := rfl

theorem proc_get (s : State) : (get : Proc State) s = .ok s s := rfl

theorem proc_modify (f : State → State) (s : State) : (modify f : Proc Unit) s = .ok () (f s) := rfl

theorem config_run (s : State) : config s = .ok s.params s := rfl

theorem setPin_run (p : Pin) (b : Bool) (s : State) : setPin p b s = .ok () (s.drive p b) := rfl

theorem getTdo_run (s : State) : getTdo s = .ok s.nextTdo s.sampled := rfl

theorem raise_run (c : FaultCode) (v : Word) (s : State) : raise c v s = .error .faulted (takeFault c v s) := rfl

theorem verify_run (b : Bool) (c : FaultCode) (v : Word) (s : State) :
    verify b c v s = if b then .ok () s else .error .faulted (takeFault c v s) := by
  cases b <;> rfl

theorem verify_pass {b : Bool} (h : b = true) (c : FaultCode) (v : Word) (s : State) : verify b c v s = .ok () s := by
  rw [verify_run, if_pos h]

theorem verify_fail {b : Bool} (h : b = false) (c : FaultCode) (v : Word) (s : State) :
    verify b c v s = .error .faulted (takeFault c v s) := by
  rw [verify_run, h]
  rfl

/-! ## Quiet states -/

theorem hostSlot_quiet {s : State} (h : s.quiet = true) : hostSlot s = .ok () s := by
  unfold hostSlot State.quiet at *
  cases hs : s.host with
  | nil => simp [landEvents, ← hs]
  | cons e es =>
    obtain ⟨tm, act⟩ := e
    simp only [hs, beq_iff_eq] at h
    subst h
    simp only [landEvents, ← hs]

theorem quiet_of_host_eq {s t : State} (h : t.host = s.host) : t.quiet = s.quiet := by
  simp [State.quiet, h]

@[simp] theorem quiet_drive (s : State) (p : Pin) (b : Bool) : (s.drive p b).quiet = s.quiet := quiet_of_host_eq (by simp)
@[simp] theorem quiet_initPins (s : State) : s.initPins.quiet = s.quiet := quiet_of_host_eq (by simp)
@[simp] theorem quiet_pulsed (s : State) (qs : List Pulse) : (s.pulsed qs).quiet = s.quiet := quiet_of_host_eq (by simp)
@[simp] theorem quiet_afterPulse (s : State) (q : Pulse) : (s.afterPulse q).quiet = s.quiet := quiet_of_host_eq (by simp)
@[simp] theorem quiet_inTap (s : State) (t : TapState) (ph : ShiftPhase) : (s.inTap t ph).quiet = s.quiet := rfl

/-! ## Samples -/

theorem nextTdo_eq_tdoAt (s : State) : s.nextTdo = s.tdoAt 0 := by
  unfold State.nextTdo State.tdoAt
  cases s.tdo <;> simp

theorem tdoAt_afterPulse (s : State) (q : Pulse) (k : Nat) : (s.afterPulse q).tdoAt k = s.tdoAt (k + 1) := by
  unfold State.tdoAt
  cases h : s.tdo with
  | nil => simp [h, Nat.add_assoc, Nat.add_comm 1 k]
  | cons b bs => simp [h]

theorem tdoAt_pulsed (s : State) (qs : List Pulse) (k : Nat) : (s.pulsed qs).tdoAt k = s.tdoAt (k + qs.length) := by
  induction qs generalizing s with
  | nil => simp
  | cons q qs ih => simp [ih, tdoAt_afterPulse, Nat.add_assoc]

theorem captured_pulsed (s : State) (qs : List Pulse) (k n : Nat) :
    (s.pulsed qs).captured k n = s.captured (k + qs.length) n := by
  unfold State.captured
  congr 1
  apply List.map_congr_left
  intro j _
  rw [tdoAt_pulsed]
  congr 1
  omega

/-- What a state answers to the samples ahead depends only on its environment. -/
theorem captured_congr {s t : State} (ht : t.tdo = s.tdo) (hd : t.draws = s.draws) (k n : Nat) :
    t.captured k n = s.captured k n := by
  simp [State.captured, State.tdoAt, ht, hd]

@[simp] theorem captured_initPins (s : State) (k n : Nat) : s.initPins.captured k n = s.captured k n :=
  captured_congr (by simp) (by simp) k n

/-! ## Pulses -/

@[simp] theorem nextTdo_drive (s : State) (p : Pin) (b : Bool) : (s.drive p b).nextTdo = s.nextTdo := by
  simp [State.nextTdo]

/-- The five pin events of a pulse, one update each, are `afterPulse` (R121). -/
theorem pulse_updates (s : State) (tms tdi : Bool) :
    ((((s.drive .tms tms).drive .tdi tdi).drive .tck true).sampled).drive .tck false = s.afterPulse (tms, tdi) := by
  apply State.ext <;> simp [pulseEvents]

theorem pulse_quiet {s : State} (h : s.quiet = true) (tms tdi : Bool) :
    pulse tms tdi s = .ok (s.tdoAt 0) (s.afterPulse (tms, tdi)) := by
  unfold pulse
  simp only [proc_bind_ok (hostSlot_quiet h), proc_bind_ok (setPin_run ..), proc_bind_ok (getTdo_run ..), proc_pure]
  rw [nextTdo_drive, nextTdo_drive, nextTdo_drive, ← nextTdo_eq_tdoAt, pulse_updates]

theorem walk_quiet {s : State} (h : s.quiet = true) (ts : List Bool) :
    walk ts s = .ok () (s.pulsed (tmsPulses ts)) := by
  induction ts generalizing s with
  | nil => rfl
  | cons t ts ih =>
    simp only [walk, proc_bind_ok (pulse_quiet h t false)]
    rw [ih (by simp [h])]
    rfl

theorem dataPulses_succ_from (out : Word) (last : Bool) (k i : Nat) :
    ((List.range (k + 1)).map fun j => (last && j + 1 == k + 1, out.getLsbD (i + j))) =
      (last && k == 0, out.getLsbD i) ::
        (List.range k).map fun j => (last && j + 1 == k, out.getLsbD (i + 1 + j)) := by
  rw [List.range_succ_eq_map, List.map_cons, List.map_map]
  congr 1
  · cases k <;> simp
  · apply List.map_congr_left
    intro j _
    simp [Nat.add_comm, Nat.add_left_comm]

theorem shiftBits_quiet {s : State} (h : s.quiet = true) (out : Word) (last : Bool) (k i : Nat) :
    shiftBits out last k i s =
      .ok ((List.range k).map s.tdoAt)
        (s.pulsed ((List.range k).map fun j => (last && j + 1 == k, out.getLsbD (i + j)))) := by
  induction k generalizing s i with
  | zero => rfl
  | succ k ih =>
    simp only [shiftBits, proc_bind_ok (pulse_quiet h _ _)]
    rw [proc_bind_ok (ih (by simp [h]) (i + 1)), proc_pure, dataPulses_succ_from]
    congr 1
    rw [List.range_succ_eq_map, List.map_cons, List.map_map]
    congr 1
    exact List.map_congr_left fun j _ => tdoAt_afterPulse s _ j

theorem shiftBits_quiet_zero {s : State} (h : s.quiet = true) (out : Word) (last : Bool) (n : Nat) :
    shiftBits out last n 0 s = .ok ((List.range n).map s.tdoAt) (s.pulsed (dataPulses out last n)) := by
  rw [shiftBits_quiet h]
  simp [dataPulses]

@[simp] theorem dataPulses_length (out : Word) (last : Bool) (n : Nat) : (dataPulses out last n).length = n := by
  simp [dataPulses]

/-! ## TAP Sequencer procedures -/

theorem tmsPulses_commitTms (s : State) : tmsPulses (commitTms s.tapState s.shiftPhase) = s.leavePulses := by
  unfold State.leavePulses
  cases s.tapState <;> cases s.shiftPhase <;> rfl

theorem tmsPulses_enterTms (k : ScanKind) : tmsPulses (enterTms k) = enterPulses k := by cases k <;> rfl

theorem tmsPulses_replicate (n : Nat) : tmsPulses (List.replicate n false) = List.replicate n (false, false) := by
  simp [tmsPulses]

theorem commit_quiet {s : State} (h : s.quiet = true) :
    commit s = .ok () ((s.pulsed s.leavePulses).inTap .idle .shift) := by
  unfold commit
  rw [proc_bind_ok (proc_get s), proc_bind_ok (walk_quiet h _), proc_modify, tmsPulses_commitTms]

/-- Pulses write no field of the block but the pins, so they pass through an update of the TAP macro-state. -/
theorem inTap_pulsed (s : State) (t : TapState) (ph : ShiftPhase) (qs : List Pulse) :
    (s.inTap t ph).pulsed qs = (s.pulsed qs).inTap t ph := by
  induction qs generalizing s with
  | nil => rfl
  | cons q qs ih => exact ih (s.afterPulse q)

theorem forgetIr_pulsed (s : State) (qs : List Pulse) : s.forgetIr.pulsed qs = (s.pulsed qs).forgetIr := by
  induction qs generalizing s with
  | nil => rfl
  | cons q qs ih => exact ih (s.afterPulse q)

theorem cacheIr_pulsed (s : State) (c : BitVec 4) (qs : List Pulse) :
    (s.cacheIr c).pulsed qs = (s.pulsed qs).cacheIr c := by
  induction qs generalizing s with
  | nil => rfl
  | cons q qs ih => exact ih (s.afterPulse q)

theorem runIdle_quiet {s : State} (h : s.quiet = true) (n : Nat) : runIdle n s = .ok () (s.idled n) := by
  unfold runIdle
  rw [proc_bind_ok (commit_quiet h), walk_quiet (by simp [h]), tmsPulses_replicate, inTap_pulsed, ← pulsed_append]
  rfl

theorem enter_quiet {s : State} (h : s.quiet = true) (k : ScanKind) :
    enter k s = .ok () { s.pulsed (s.leavePulses ++ enterPulses k) with
      tapState := .shifting
      shiftPhase := .shift
      irValid := irValidAfter k s.irValid } := by
  unfold enter
  rw [proc_bind_ok (commit_quiet h), proc_bind_ok (walk_quiet (by simp [h]) _), proc_modify, tmsPulses_enterTms,
    inTap_pulsed, ← pulsed_append]
  cases k
  · rfl
  · congr 1
    simp [State.inTap, irValidAfter]

/-- A Shift in an open scan (R130). -/
theorem shift_quiet {s : State} (h : s.quiet = true) (ht : s.tapState = .shifting) (hp : s.shiftPhase = .shift)
    (n : Nat) (out : Word) (last : Bool) :
    shift n out last s = .ok (s.captured 0 n) ((s.pulsed (dataPulses out last n)).endShift n last) := by
  unfold shift
  rw [proc_bind_ok (proc_get s)]
  simp only [ht, hp, beq_self_eq_true, verify, if_true]
  rw [proc_bind_ok (proc_pure ..), proc_bind_ok (proc_pure ..), proc_bind_ok (shiftBits_quiet_zero h out last n),
    proc_bind_ok (proc_modify ..), proc_pure]
  simp [State.captured]

/-- A Shift outside a scan faults, and so does one after the scan's last bit (R130). -/
theorem shift_misused (s : State) (n : Nat) (out : Word) (last : Bool) :
    (s.tapState ≠ .shifting →
      shift n out last s = .error .faulted (takeFault .shiftNotShifting (s.tapState.bits.setWidth 32) s)) ∧
    (s.tapState = .shifting → s.shiftPhase = .exit1 →
      shift n out last s = .error .faulted (takeFault .shiftAfterLast 0 s)) := by
  constructor
  · intro h
    unfold shift
    rw [proc_bind_ok (proc_get s), proc_bind_error]
    rw [verify_run, if_neg (by simp [h])]
  · intro h hp
    unfold shift
    rw [proc_bind_ok (proc_get s), proc_bind_ok, proc_bind_error]
    · rw [verify_run, if_neg (by simp [hp])]
    · rw [verify_run, if_pos (by simp [h])]

theorem captured_leave_enter (s t : State) (qs : List Pulse) (n : Nat) (ht : t.tdo = (s.pulsed qs).tdo)
    (hd : t.draws = (s.pulsed qs).draws) : t.captured 0 n = s.captured qs.length n := by
  rw [captured_congr ht hd, captured_pulsed, Nat.zero_add]

/-- The state in the middle of a scan: what a list of pulses and three fields make of a state. Every procedure below
ends in such a state, which makes them compose. -/
def State.at (s : State) (qs : List Pulse) (t : TapState) (ph : ShiftPhase) (valid : Bool) (code : BitVec 4) : State :=
  { s.pulsed qs with tapState := t, shiftPhase := ph, irValid := valid, irCache := code }

theorem at_pulsed (s : State) (qs rs : List Pulse) (t : TapState) (ph : ShiftPhase) (v : Bool) (c : BitVec 4) :
    (s.at qs t ph v c).pulsed rs = s.at (qs ++ rs) t ph v c := by
  induction rs generalizing qs with
  | nil => simp
  | cons r rs ih =>
    have : (s.at qs t ph v c).afterPulse r = s.at (qs ++ [r]) t ph v c := by
      simp only [State.at, pulsed_append, pulsed_cons, pulsed_nil]
      rfl
    rw [pulsed_cons, this, ih]
    simp

theorem at_at (s : State) (qs rs : List Pulse) (t t' : TapState) (ph ph' : ShiftPhase) (v v' : Bool) (c c' : BitVec 4) :
    (s.at qs t ph v c).at rs t' ph' v' c' = s.at (qs ++ rs) t' ph' v' c' := by
  have h := at_pulsed s qs rs t ph v c
  unfold State.at at h ⊢
  rw [h]

theorem self_at (s : State) (qs : List Pulse) : s.pulsed qs = s.at qs s.tapState s.shiftPhase s.irValid s.irCache := by
  unfold State.at
  rw [← pulsed_tapState s qs, ← pulsed_shiftPhase s qs, ← pulsed_irValid s qs, ← pulsed_irCache s qs]

@[simp] theorem at_tapState (s : State) (qs : List Pulse) (t : TapState) (ph : ShiftPhase) (v : Bool) (c : BitVec 4) :
    (s.at qs t ph v c).tapState = t := rfl
@[simp] theorem at_shiftPhase (s : State) (qs : List Pulse) (t : TapState) (ph : ShiftPhase) (v : Bool) (c : BitVec 4) :
    (s.at qs t ph v c).shiftPhase = ph := rfl
@[simp] theorem at_irValid (s : State) (qs : List Pulse) (t : TapState) (ph : ShiftPhase) (v : Bool) (c : BitVec 4) :
    (s.at qs t ph v c).irValid = v := rfl
@[simp] theorem at_irCache (s : State) (qs : List Pulse) (t : TapState) (ph : ShiftPhase) (v : Bool) (c : BitVec 4) :
    (s.at qs t ph v c).irCache = c := rfl
@[simp] theorem at_params (s : State) (qs : List Pulse) (t : TapState) (ph : ShiftPhase) (v : Bool) (c : BitVec 4) :
    (s.at qs t ph v c).params = s.params := by simp [State.at]
@[simp] theorem at_quiet (s : State) (qs : List Pulse) (t : TapState) (ph : ShiftPhase) (v : Bool) (c : BitVec 4) :
    (s.at qs t ph v c).quiet = s.quiet := quiet_of_host_eq (by simp [State.at])
theorem at_captured (s : State) (qs : List Pulse) (t : TapState) (ph : ShiftPhase) (v : Bool) (c : BitVec 4) (k n : Nat) :
    (s.at qs t ph v c).captured k n = s.captured (k + qs.length) n := by
  rw [← captured_pulsed]
  exact captured_congr rfl rfl k n

theorem inTap_at (s : State) (t : TapState) (ph : ShiftPhase) : s.inTap t ph = s.at [] t ph s.irValid s.irCache := rfl

theorem commit_at {s : State} (h : s.quiet = true) :
    commit s = .ok () (s.at s.leavePulses .idle .shift s.irValid s.irCache) := by
  rw [commit_quiet h, self_at, inTap_at, at_at]
  simp

theorem enter_at {s : State} (h : s.quiet = true) (k : ScanKind) :
    enter k s = .ok ()
      (s.at (s.leavePulses ++ enterPulses k) .shifting .shift (irValidAfter k s.irValid) s.irCache) := by
  rw [enter_quiet h, State.at, ← pulsed_irCache s (s.leavePulses ++ enterPulses k)]

/-- The phase a Shift leaves (R130). -/
def phaseAfter (n : Nat) (last : Bool) : ShiftPhase := if last && n != 0 then .exit1 else .shift

theorem shift_at {s : State} (h : s.quiet = true) (ht : s.tapState = .shifting) (hp : s.shiftPhase = .shift)
    (n : Nat) (out : Word) (last : Bool) :
    shift n out last s = .ok (s.captured 0 n)
      (s.at (dataPulses out last n) .shifting (phaseAfter n last) s.irValid s.irCache) := by
  rw [shift_quiet h ht hp, self_at, ht, hp]
  congr 1
  unfold State.endShift phaseAfter
  split
  · rfl
  · rfl

theorem leavePulses_at (s : State) (qs : List Pulse) (t : TapState) (ph : ShiftPhase) (v : Bool) (c : BitVec 4) :
    (s.at qs t ph v c).leavePulses =
      match t, ph with
      | .idle, _ => []
      | .reset, _ => [(false, false)]
      | .shifting, .exit1 => [(true, false), (false, false)]
      | .shifting, .shift => [(true, false), (true, false), (false, false)] := rfl

/-- A whole scan (R131, R132): its value and the state it leaves. -/
theorem scan_quiet {s : State} (h : s.quiet = true) (k : ScanKind) (n : Nat) (out : Word) :
    scan k n out s = .ok (s.scanValue k n) (s.scanned k n out) := by
  unfold scan
  rw [proc_bind_ok (enter_at h k), proc_bind_ok (shift_at (by simp [h]) rfl rfl n out true),
    proc_bind_ok (commit_at (by simp [h])), proc_pure, at_captured, at_at, at_at, Nat.zero_add, List.length_append]
  congr 1
  have hs : s.scanned k n out =
      s.at (s.leavePulses ++ scanPulses k n out) .idle .shift (irValidAfter k s.irValid) s.irCache := by
    unfold State.scanned State.at
    rw [← pulsed_irCache s (s.leavePulses ++ scanPulses k n out)]
  rw [hs, leavePulses_at]
  simp only [at_irValid, at_irCache, phaseAfter, scanPulses]
  by_cases hn : n = 0
  · simp [hn]
  · simp [hn]

end Sys2Proof.Machine
end

