-- ==== Sys2Proof/Laws/Dap.lean ====
section
/-! SUPPORT. What the procedures of the DAP engine, bring-up and the command cycle do in a state in which no host event is
due inside the command: one law each. -/

namespace Sys2Proof.Machine

/-! ## IR selection and transactions -/

theorem scanned_at (s : State) (k : ScanKind) (n : Nat) (out : Word) :
    s.scanned k n out =
      s.at (s.leavePulses ++ scanPulses k n out) .idle .shift (irValidAfter k s.irValid) s.irCache := by
  unfold State.scanned State.at
  rw [← pulsed_irCache s (s.leavePulses ++ scanPulses k n out)]

@[simp] theorem scanned_params (s : State) (k : ScanKind) (n : Nat) (out : Word) :
    (s.scanned k n out).params = s.params := by simp [State.scanned]

@[simp] theorem scanned_quiet (s : State) (k : ScanKind) (n : Nat) (out : Word) :
    (s.scanned k n out).quiet = s.quiet := quiet_of_host_eq (by simp [State.scanned])

@[simp] theorem idled_params (s : State) (n : Nat) : (s.idled n).params = s.params := by simp [State.idled]

@[simp] theorem idled_quiet (s : State) (n : Nat) : (s.idled n).quiet = s.quiet :=
  quiet_of_host_eq (by simp [State.idled])

/-- SelectIR on a hit: nothing happens (R180). -/
theorem selectIr_hit {s : State} {code : BitVec 4} (hit : s.holdsIr code = true) : selectIr code s = .ok () s := by
  unfold selectIr State.holdsIr at *
  rw [proc_bind_ok (proc_get s), if_pos hit, proc_pure]

/-- SelectIR on a miss: one IR scan, and the cache holds the code (R180). -/
theorem selectIr_miss {s : State} (h : s.quiet = true) {code : BitVec 4} (miss : s.holdsIr code = false) :
    selectIr code s = .ok () (s.at (s.selectPulses code) .idle .shift true code) := by
  unfold selectIr
  rw [proc_bind_ok (proc_get s), if_neg (by simpa [State.holdsIr] using miss), proc_bind_ok (scan_quiet h ..), proc_modify,
    scanned_at]
  simp only [State.selectPulses, miss]
  rfl

theorem leavePulses_holds {s : State} {code : BitVec 4} (hit : s.holdsIr code = true) :
    s.at [] s.tapState s.shiftPhase true code = s := by
  simp only [State.holdsIr, Bool.and_eq_true, beq_iff_eq] at hit
  unfold State.at
  rw [← hit.1, ← hit.2]
  rfl

/-- Steps 1 and 2 of Transact (R181): wherever it starts, the DR scan is open and the cache holds the code. -/
theorem selectIr_enter {s : State} (h : s.quiet = true) (code : BitVec 4) {β : Type} (f : Unit → Proc β) :
    (selectIr code >>= fun _ => enter .dr >>= f) s =
      f () (s.at (s.selectPulses code ++ enterPulses .dr) .shifting .shift true code) := by
  cases hit : s.holdsIr code with
  | true =>
    rw [proc_bind_ok (selectIr_hit hit), proc_bind_ok (enter_at h .dr)]
    simp only [State.holdsIr, Bool.and_eq_true, beq_iff_eq] at hit
    simp [State.selectPulses, State.holdsIr, hit.1, hit.2, irValidAfter]
  | false =>
    rw [proc_bind_ok (selectIr_miss h hit), proc_bind_ok (enter_at (by simp [h]) .dr), at_at, leavePulses_at]
    simp [irValidAfter]

theorem transacted_at (s : State) (r : Request) :
    s.transacted r = s.at (s.selectPulses r.ir ++ ackPulses r ++ dataPhasePulses r) .idle .shift true r.ir := rfl

@[simp] theorem transacted_params (s : State) (r : Request) : (s.transacted r).params = s.params := by
  simp [transacted_at]

@[simp] theorem transacted_quiet (s : State) (r : Request) : (s.transacted r).quiet = s.quiet := by
  simp [transacted_at]

theorem dataPulses_one : dataPulses 0#32 true 1 = [(true, false)] := rfl

/-- A transaction whose ack is OK (R181). -/
theorem transact_ok {s : State} (h : s.quiet = true) (r : Request) (ok : s.ackOk r = true) :
    transact r.ir r.op3 r.arg s = .ok (s.dataOf r) (s.transacted r) := by
  unfold transact
  rw [proc_bind_ok (config_run s), selectIr_enter h]
  rw [proc_bind_ok (shift_at (by simp [h]) rfl rfl 3 _ false), at_at, at_captured]
  have hack : s.captured (0 + (s.selectPulses r.ir ++ enterPulses .dr).length) 3 = s.ackOf r := by
    simp [State.ackOf, enterPulses]
  have hok : (s.ackOf r == s.params.ackOk.setWidth 32) = true := ok
  rw [hack, proc_bind_ok (verify_pass hok ..), proc_bind_ok (shift_at (by simp [h]) rfl rfl 32 _ false), at_at, at_captured,
    proc_bind_ok (shift_at (by simp [h]) rfl rfl 1 _ true), at_at, proc_bind_ok (commit_at (by simp [h])), at_at,
    proc_bind_ok (runIdle_quiet (by simp [h]) 1), proc_pure, transacted_at]
  congr 1
  · simp [State.dataOf, enterPulses]
  · rw [State.idled, leavePulses_at, leavePulses_at, at_pulsed]
    simp [State.at, phaseAfter, ackPulses, dataPhasePulses, dataPulses_one, List.append_assoc]

/-- A transaction whose ack is not OK faults in the open scan (R181, R243). -/
theorem transact_refused {s : State} (h : s.quiet = true) (r : Request) (bad : s.ackOk r = false) :
    transact r.ir r.op3 r.arg s = .error .faulted (s.ackRefused r) := by
  unfold transact
  rw [proc_bind_ok (config_run s), selectIr_enter h]
  rw [proc_bind_ok (shift_at (by simp [h]) rfl rfl 3 _ false), at_at, at_captured]
  have hack : s.captured (0 + (s.selectPulses r.ir ++ enterPulses .dr).length) 3 = s.ackOf r := by
    simp [State.ackOf, enterPulses]
  have hbad : (s.ackOf r == s.params.ackOk.setWidth 32) = false := bad
  rw [hack, proc_bind_error (verify_fail hbad ..)]
  simp [State.ackRefused, State.at, ackPulses, phaseAfter]

theorem transact_fields_ok {s : State} (h : s.quiet = true) {code : BitVec 4} {op3 : BitVec 3} {arg : Word}
    (ok : s.ackOk ⟨code, op3, arg⟩ = true) :
    transact code op3 arg s = .ok (s.dataOf ⟨code, op3, arg⟩) (s.transacted ⟨code, op3, arg⟩) :=
  transact_ok h ⟨code, op3, arg⟩ ok

theorem transact_fields_refused {s : State} (h : s.quiet = true) {code : BitVec 4} {op3 : BitVec 3} {arg : Word}
    (bad : s.ackOk ⟨code, op3, arg⟩ = false) :
    transact code op3 arg s = .error .faulted (s.ackRefused ⟨code, op3, arg⟩) :=
  transact_refused h ⟨code, op3, arg⟩ bad

/-- CheckedRead, from its three transactions and its comparison (R197). -/
theorem checkedRead_ok {s : State} (h : s.quiet = true) (acks : s.acksOk (checkedReadRequests s.params) = true)
    (csw : s.cswRead = s.params.cswExpect) :
    checkedRead s = .ok (s.dataOf ⟨s.params.dapIrDpacc, s.params.op3DpNop, 0⟩)
      (s.transactedAll (checkedReadRequests s.params)) := by
  simp only [checkedReadRequests, State.acksOk, Bool.and_eq_true] at acks
  obtain ⟨h1, h2, h3, -⟩ := acks
  unfold checkedRead
  rw [proc_bind_ok (config_run s), proc_bind_ok (transact_fields_ok h h1),
    proc_bind_ok (transact_fields_ok (by simp [h]) h2), proc_bind_ok (transact_fields_ok (by simp [h]) h3)]
  exact proc_bind_ok (verify_pass (beq_iff_eq.mpr csw) ..)

/-- CheckedRead where the DP CSW is not the expected value (R197). -/
theorem checkedRead_mismatch {s : State} (h : s.quiet = true) (acks : s.acksOk (checkedReadRequests s.params) = true)
    (csw : s.cswRead ≠ s.params.cswExpect) :
    checkedRead s = .error .faulted
      (takeFault .cswStatusMismatch s.cswRead (s.transactedAll (checkedReadRequests s.params))) := by
  simp only [checkedReadRequests, State.acksOk, Bool.and_eq_true] at acks
  obtain ⟨h1, h2, h3, -⟩ := acks
  unfold checkedRead
  rw [proc_bind_ok (config_run s), proc_bind_ok (transact_fields_ok h h1),
    proc_bind_ok (transact_fields_ok (by simp [h]) h2), proc_bind_ok (transact_fields_ok (by simp [h]) h3)]
  exact proc_bind_error (verify_fail (beq_eq_false_iff_ne.mpr csw) ..)

@[simp] theorem transactedAll_params (s : State) (rs : List Request) : (s.transactedAll rs).params = s.params := by
  induction rs generalizing s with
  | nil => rfl
  | cons r rs ih => exact (ih (s.transacted r)).trans (transacted_params s r)

@[simp] theorem transactedAll_quiet (s : State) (rs : List Request) : (s.transactedAll rs).quiet = s.quiet := by
  induction rs generalizing s with
  | nil => rfl
  | cons r rs ih => exact (ih (s.transacted r)).trans (transacted_quiet s r)

/-! ## Bring-up -/

theorem configureRouter_ok {s : State} (h : s.quiet = true) (w : Word) (ok : s.routerOk w = true) :
    configureRouter w s = .ok () (s.routerConfigured w) := by
  unfold configureRouter
  rw [proc_bind_ok (config_run s), proc_bind_ok (scan_quiet h ..), proc_bind_ok (scan_quiet (by simp [h]) ..)]
  exact (proc_bind_ok (verify_pass ok ..)).trans (runIdle_quiet (by simp [h]) _)

theorem configureRouter_mismatch {s : State} (h : s.quiet = true) (w : Word) (bad : s.routerOk w = false) :
    configureRouter w s = .error .faulted
      (takeFault .routerReadbackMismatch ((s.routerWritten w).scanValue .dr 32) (s.routerReadBack w)) := by
  unfold configureRouter
  rw [proc_bind_ok (config_run s), proc_bind_ok (scan_quiet h ..), proc_bind_ok (scan_quiet (by simp [h]) ..)]
  exact proc_bind_error (verify_fail bad ..)

@[simp] theorem routerConfigured_quiet (s : State) (w : Word) : (s.routerConfigured w).quiet = s.quiet := by
  simp [State.routerConfigured, State.routerReadBack, State.routerWritten]

@[simp] theorem routerConfigured_params (s : State) (w : Word) : (s.routerConfigured w).params = s.params := by
  simp [State.routerConfigured, State.routerReadBack, State.routerWritten]

theorem configureRouters_ok {s : State} (h : s.quiet = true) (ws : List Word) (ok : s.routersOk ws = true) :
    configureRouters ws s = .ok () (ws.foldl State.routerConfigured s) := by
  induction ws generalizing s with
  | nil => rfl
  | cons w ws ih =>
    simp only [State.routersOk, Bool.and_eq_true] at ok
    rw [configureRouters, proc_bind_ok (configureRouter_ok h w ok.1), ih (by simp [h]) ok.2]
    rfl

theorem identifyTap_ok {s : State} (h : s.quiet = true) (ok : s.idcodeOk = true) :
    identifyTap s = .ok () s.identified := by
  unfold identifyTap State.idcodeOk State.identified at *
  rw [proc_bind_ok (config_run s)]
  cases hc : s.params.checkTapIdcode with
  | true =>
    rw [hc] at ok
    rw [if_pos rfl, proc_bind_ok (scan_quiet h ..), if_pos rfl]
    exact verify_pass (by simpa using ok) ..
  | false => rfl

theorem identifyTap_mismatch {s : State} (h : s.quiet = true) (bad : s.idcodeOk = false) :
    identifyTap s = .error .faulted (takeFault .tapIdcodeMismatch (s.scanValue .dr 32) (s.scanned .dr 32 0)) := by
  unfold identifyTap State.idcodeOk at *
  rw [proc_bind_ok (config_run s)]
  cases hc : s.params.checkTapIdcode with
  | true =>
    rw [hc] at bad
    rw [if_pos rfl, proc_bind_ok (scan_quiet h ..)]
    exact verify_fail (by simpa using bad) ..
  | false => simp [hc] at bad

theorem connectIcepick_ok {s : State} (h : s.quiet = true) (ok : s.connectOk = true) :
    connectIcepick s = .ok () s.connected := by
  unfold connectIcepick
  rw [proc_bind_ok (config_run s), proc_bind_ok (scan_quiet h ..), proc_bind_ok (scan_quiet (by simp [h]) ..),
    proc_bind_ok (scan_quiet (by simp [h]) ..)]
  exact verify_pass ok ..

theorem connectIcepick_mismatch {s : State} (h : s.quiet = true) (bad : s.connectOk = false) :
    connectIcepick s = .error .faulted
      (takeFault .connectMismatch (s.connectWritten.scanValue .dr 8) s.connected) := by
  unfold connectIcepick
  rw [proc_bind_ok (config_run s), proc_bind_ok (scan_quiet h ..), proc_bind_ok (scan_quiet (by simp [h]) ..),
    proc_bind_ok (scan_quiet (by simp [h]) ..)]
  exact verify_fail bad ..

@[simp] theorem identified_quiet (s : State) : s.identified.quiet = s.quiet := by
  unfold State.identified; split <;> simp

@[simp] theorem identified_params (s : State) : s.identified.params = s.params := by
  unfold State.identified; split <;> simp

@[simp] theorem connected_quiet (s : State) : s.connected.quiet = s.quiet := by
  simp [State.connected, State.connectWritten]

@[simp] theorem connected_params (s : State) : s.connected.params = s.params := by
  simp [State.connected, State.connectWritten]

@[simp] theorem atRouters_quiet (s : State) : s.atRouters.quiet = s.quiet := by simp [State.atRouters]

@[simp] theorem atRouters_params (s : State) : s.atRouters.params = s.params := by simp [State.atRouters]

@[simp] theorem foldl_routerConfigured_quiet (s : State) (ws : List Word) :
    (ws.foldl State.routerConfigured s).quiet = s.quiet := by
  induction ws generalizing s with
  | nil => rfl
  | cons w ws ih => exact (ih _).trans (routerConfigured_quiet s w)

/-- The whole of bring-up where every check passes (R160). -/
theorem icepickBringup_ok {s : State} (h : s.quiet = true) (id : s.idcodeOk = true)
    (key : s.identified.connectOk = true) (routers : s.atRouters.routersOk s.params.routerWords = true) :
    icepickBringup s = .ok () s.broughtUp := by
  unfold icepickBringup
  rw [proc_bind_ok (config_run s), proc_bind_ok (identifyTap_ok h id),
    proc_bind_ok (connectIcepick_ok (by simp [h]) key), proc_bind_ok (scan_quiet (by simp [h]) ..)]
  have hr : s.identified.connected.scanned .ir s.params.icepickIrLen s.params.icepickRouter = s.atRouters := rfl
  rw [hr, proc_bind_ok (configureRouters_ok (by simp [h]) _ routers), proc_bind_ok (scan_quiet (by simp [h]) ..),
    runIdle_quiet (by simp [h])]
  rfl

/-! ## The command cycle -/

/-- A command whose operands are in range and whose procedure runs to its end (R120). -/
theorem runCommand_ok {s t : State} {body : Proc (Option Word)} {r : Option Word} (run : body s.initPins = .ok r t)
    (h : t.quiet = true) : runCommand none body s = .next (t.complete r) := by
  unfold runCommand finalState
  simp only [commandCycle]
  rw [proc_bind_ok (proc_modify ..), proc_bind_ok run, proc_bind_ok (hostSlot_quiet h), proc_modify]

/-- A command whose procedure stops, by a fault or by block reset (R243, R270). -/
theorem runCommand_stopped {s t : State} {body : Proc (Option Word)} {e : Stop} (run : body s.initPins = .error e t) :
    runCommand none body s = .next t := by
  unfold runCommand finalState
  simp only [commandCycle]
  rw [proc_bind_ok (proc_modify ..), proc_bind_error run]

/-- A command that returns nothing, from what its procedure does. -/
theorem runCommand_unit {s t : State} {m : Proc Unit} (run : m s.initPins = .ok () t) (h : t.quiet = true) :
    runCommand none (do m; return none) s = .next (t.complete none) :=
  runCommand_ok ((proc_bind_ok run).trans (proc_pure ..)) h

/-- A command that returns a value, from what its procedure does. -/
theorem runCommand_value {s t : State} {m : Proc Word} {v : Word} (run : m s.initPins = .ok v t) (h : t.quiet = true) :
    runCommand none (do let r ← m; return some r) s = .next (t.complete (some v)) :=
  runCommand_ok ((proc_bind_ok run).trans (proc_pure ..)) h

/-- A command whose procedure stops, whatever it would have returned. -/
theorem runCommand_error {α : Type} {s t : State} {m : Proc α} {f : α → Proc (Option Word)} {e : Stop}
    (run : m s.initPins = .error e t) : runCommand none (m >>= f) s = .next t :=
  runCommand_stopped (proc_bind_error run)

/-- A command whose operands fail their check (R82): nothing but the fault. -/
theorem runCommand_rejected (s : State) (c : FaultCode) (v : Word) (body : Proc (Option Word)) :
    runCommand (some (c, v)) body s = .next (takeFault c v s) := rfl

@[simp] theorem initPins_leavePulses (s : State) : s.initPins.leavePulses = s.leavePulses := by simp [State.leavePulses]

/-- A second initialise request is never made (R120). -/
theorem initPins_done {s : State} (h : s.pinInitDone = true) : s.initPins = s := by simp [State.initPins, h]

/-- The operand checks of the machine and the well-formedness of the instruction are the same (R82). -/
theorem operandFault_eq_none_iff (p : Params) (i : Instr) : operandFault p i = none ↔ i.wellFormed p = true := by
  cases i <;> simp [operandFault, Instr.wellFormed]

end Sys2Proof.Machine
end

