-- ==== Sys2Proof/Laws/PerInstr.lean ====
section
/-! SUPPORT. What the encoding of each command looks like as a word (30_encoding.md R80, R88), one lemma per command: its
opcode is an assigned one, its reserved bits are zero, every field the command does not use is zero, and the bits that
decide the command include those the table's mask tests. -/

namespace Sys2Proof.Laws.WordFields

/-- The opcode is one of 0x01 to 0x1A, the reserved bits are zero, no bit outside the command's own fields is set, and the
mask 0xFFF8001F of R88 is part of the bits that decide the command. -/
def Statement (i : Instr) : Prop :=
  1 ≤ (opcField (encode i)).toNat ∧ (opcField (encode i)).toNat ≤ 0x1A ∧ rsvField (encode i) = 0 ∧
    encode i &&& ~~~i.usedBits = 0 ∧ i.usedBits &&& 0xFFF8001F = 0xFFF8001F

theorem reset : Statement .reset := by
  unfold Statement; decide

theorem commit : Statement .commit := by
  unfold Statement; decide

theorem runIdle : Statement .runIdle := by
  unfold Statement; decide

theorem enterIr : Statement .enterIr := by
  unfold Statement; decide

theorem enterDr : Statement .enterDr := by
  unfold Statement; decide

theorem shift (nbits : BitVec 6) (last : Bool) : Statement (.shift nbits last) := by
  unfold Statement; revert nbits last; decide +kernel

theorem scanIr (nbits : BitVec 6) : Statement (.scanIr nbits) := by
  unfold Statement; revert nbits; decide +kernel

theorem scanDr (nbits : BitVec 6) : Statement (.scanDr nbits) := by
  unfold Statement; revert nbits; decide +kernel

theorem selectIr (irCode : BitVec 4) : Statement (.selectIr irCode) := by
  unfold Statement; revert irCode; decide +kernel

theorem transact (irCode : BitVec 4) (op3 : BitVec 3) : Statement (.transact irCode op3) := by
  unfold Statement; revert irCode op3; decide +kernel

theorem dpAbort : Statement .dpAbort := by
  unfold Statement; decide

theorem dpWriteCsw : Statement .dpWriteCsw := by
  unfold Statement; decide

theorem dpReadCsw : Statement .dpReadCsw := by
  unfold Statement; decide

theorem dpWriteSelect : Statement .dpWriteSelect := by
  unfold Statement; decide

theorem dpNop : Statement .dpNop := by
  unfold Statement; decide

theorem apWriteCsw : Statement .apWriteCsw := by
  unfold Statement; decide

theorem apReadCsw : Statement .apReadCsw := by
  unfold Statement; decide

theorem apWriteAddr : Statement .apWriteAddr := by
  unfold Statement; decide

theorem apReadAddr : Statement .apReadAddr := by
  unfold Statement; decide

theorem apWriteData : Statement .apWriteData := by
  unfold Statement; decide

theorem apReadData : Statement .apReadData := by
  unfold Statement; decide

theorem checkedRead : Statement .checkedRead := by
  unfold Statement; decide

theorem icepickBringup : Statement .icepickBringup := by
  unfold Statement; decide

theorem dapInit : Statement .dapInit := by
  unfold Statement; decide

theorem apRead : Statement .apRead := by
  unfold Statement; decide

theorem apWrite : Statement .apWrite := by
  unfold Statement; decide

end Sys2Proof.Laws.WordFields
end

