-- ==== Sys2Proof/Tests/Slice0.lean ====
section
/-! SUPPORT. The model's own tests. Every expected value is written out from the spec: words from 30_encoding.md R80 and R101,
pin streams, counts, captures and STATUS words from 95_test_vectors.md (the vector is named beside each). A theorem named
`witness_<Name>` shows concrete states and operands that meet every hypothesis of the obligation of that name, clause by
clause. -/

namespace Sys2Proof.Tests

-- One proof at a time: a thread for each pending kernel check would not fit in the memory limit of the check.
set_option Elab.async false

open Sys2Proof.Machine

/-! ## Small states -/

/-- The defaults with the suggested values of 95_test_vectors.md's notation for the OPEN parameters. -/
def parameters : Params :=
  { Params.defaults with dpCtrlPowerup := 0x50000032, dpSelectValue := 0x00000000, apCswValue := 0x00000012 }

/-- Block reset with those parameters. -/
def fresh : State := { State.reset with params := parameters }

/-- A command just accepted in Run-Test/Idle, with no valid IR cache. -/
def idle : State := { fresh with busy := true, pinInitDone := true, tapState := .idle }

/-- The same with a cached IR code. -/
def cached (code : BitVec 4) : State := { idle with irValid := true, irCache := code }

/-- An open scan. -/
def scanning (ph : ShiftPhase) : State := { idle with tapState := .shifting, shiftPhase := ph }

/-- A state whose target answers these samples next. -/
def answering (s : State) (bits : List Bool) : State := { s with tdo := bits }

/-- The state a command leaves, if it leaves one. -/
def after (i : Instr) (s : State) : State :=
  match exec i s with
  | .next t => t
  | .fault _ => fresh
  | .refused _ => fresh

/-- The state a step leaves, if it leaves one. -/
def stepped (s : State) : State :=
  match step s with
  | .next t => t
  | .fault _ => fresh
  | .refused _ => fresh

/-- A command always leaves a state, so a premise `exec i s = .next t` is met by `t := after i s`. -/
theorem exec_after (i : Instr) (s : State) : exec i s = .next (after i s) := by cases i <;> rfl

/-- The bits of a value as they are on the wire, least significant first. -/
def wire (n v : Nat) : List Bool := (List.range n).map fun i => v.testBit i

/-- The levels of a stream written as the spec writes it, the first pulse leftmost. -/
def stream (n v : Nat) : List Bool := (List.range n).map fun i => v.testBit (n - 1 - i)

/-- Samples nobody looks at. -/
def junk (n : Nat) : List Bool := List.replicate n false

/-- The samples of a DR scan of `n` bits from Run-Test/Idle. -/
def drScan (n v : Nat) : List Bool := junk 3 ++ wire n v ++ junk 2

/-- The samples of a transaction on a cached IR: its ack and its data. -/
def reply (ack data : Nat) : List Bool := junk 3 ++ wire 3 ack ++ wire 32 data ++ junk 4

/-- Replies with an OK ack. -/
def replies (data : List Nat) : List Bool := data.flatMap (reply 0b010)

/-- The TMS and the TDI level of each pulse, first pulse first. -/
def tmsStream (s : State) : List Bool :=
  s.trace.reverse.filterMap fun e => match e with | .drive .tms b => some b | _ => none
def tdiStream (s : State) : List Bool :=
  s.trace.reverse.filterMap fun e => match e with | .drive .tdi b => some b | _ => none

def pulses (s : State) : Nat := tckPulses s.trace

/-- V-BRING-1's captures, but for the IDCODE, the connect read-back and the two router read-backs. -/
def bringupSamples (idcode key router1 router2 : Nat) : List Bool :=
  drScan 32 idcode ++ junk 12 ++ junk 13 ++ drScan 8 key ++ junk 12 ++
    junk 37 ++ drScan 32 router1 ++ junk 10 ++ junk 37 ++ drScan 32 router2 ++ junk 10 ++ junk 12 ++ junk 10

/-- DAP_INIT's captures: the DAP IDCODE and the DP CSW; every ack is OK. -/
def initSamples (idcode csw : Nat) : List Bool :=
  junk 16 ++ drScan 32 idcode ++ junk 16 ++ replies [0, 0, 0, csw, 0] ++ junk 16 ++ replies [0]

/-- A block between commands with events of the host to come. -/
def hosted (es : List HostEvent) : State := { fresh with host := es }

def write (tm : Timing) (offset value : Word) : HostEvent := ⟨tm, .access (.write .word offset value)⟩
def read (offset : Word) : HostEvent := ⟨.whenIdle, .access (.read .word offset)⟩

/-! ## Well-formedness: an ill-formed term for each check -/

theorem test_wellFormed_nbits : Instr.wellFormed parameters (.shift 33 true) = false ∧
    Instr.wellFormed parameters (.scanIr 33) = false ∧ Instr.wellFormed parameters (.scanDr 63) = false ∧
    Instr.wellFormed parameters (.scanDr 32) = true := by decide

theorem test_wellFormed_irCode : Instr.wellFormed parameters (.selectIr 0b1110) = false ∧
    Instr.wellFormed parameters (.transact 0b0000 0b111) = false ∧
    Instr.wellFormed parameters (.selectIr 0b1000) = true := by decide

/-! ## Decoding: words written out from R80 and R88 -/

/-- Every row of R88, its word written out bit by bit: RSV, LAST, OP3, IRCODE, NBITS, OPC. -/
theorem test_decode_rows :
    decode 0b0000000000000_0_000_0000_000000_00001 = .ok .reset ∧
    decode 0b0000000000000_0_000_0000_000000_00010 = .ok .commit ∧
    decode 0b0000000000000_0_000_0000_000000_00011 = .ok .runIdle ∧
    decode 0b0000000000000_0_000_0000_000000_00100 = .ok .enterIr ∧
    decode 0b0000000000000_0_000_0000_000000_00101 = .ok .enterDr ∧
    decode 0b0000000000000_1_000_0000_001000_00110 = .ok (.shift 8 true) ∧
    decode 0b0000000000000_0_000_0000_001010_00111 = .ok (.scanIr 10) ∧
    decode 0b0000000000000_0_000_0000_100000_01000 = .ok (.scanDr 32) ∧
    decode 0b0000000000000_0_000_1011_000000_01001 = .ok (.selectIr 0b1011) ∧
    decode 0b0000000000000_0_011_1010_000000_01010 = .ok (.transact 0b1010 0b011) ∧
    decode 0b0000000000000_0_000_0000_000000_01011 = .ok .dpAbort ∧
    decode 0b0000000000000_0_000_0000_000000_01100 = .ok .dpWriteCsw ∧
    decode 0b0000000000000_0_000_0000_000000_01101 = .ok .dpReadCsw ∧
    decode 0b0000000000000_0_000_0000_000000_01110 = .ok .dpWriteSelect ∧
    decode 0b0000000000000_0_000_0000_000000_01111 = .ok .dpNop ∧
    decode 0b0000000000000_0_000_0000_000000_10000 = .ok .apWriteCsw ∧
    decode 0b0000000000000_0_000_0000_000000_10001 = .ok .apReadCsw ∧
    decode 0b0000000000000_0_000_0000_000000_10010 = .ok .apWriteAddr ∧
    decode 0b0000000000000_0_000_0000_000000_10011 = .ok .apReadAddr ∧
    decode 0b0000000000000_0_000_0000_000000_10100 = .ok .apWriteData ∧
    decode 0b0000000000000_0_000_0000_000000_10101 = .ok .apReadData ∧
    decode 0b0000000000000_0_000_0000_000000_10110 = .ok .checkedRead ∧
    decode 0b0000000000000_0_000_0000_000000_10111 = .ok .icepickBringup ∧
    decode 0b0000000000000_0_000_0000_000000_11000 = .ok .dapInit ∧
    decode 0b0000000000000_0_000_0000_000000_11001 = .ok .apRead ∧
    decode 0b0000000000000_0_000_0000_000000_11010 = .ok .apWrite := by decide

/-- V-DEC-2, 3, 4, 5 and 9, and the table word of a command. -/
theorem test_decode_rejects :
    decode 0x00000000 = .error .reservedOpcode ∧ decode 0x0000001B = .error .reservedOpcode ∧
    decode 0x0000001F = .error .reservedOpcode ∧ decode 0x00080001 = .error .reservedBitSet ∧
    decode 0x00080428 = .error .reservedBitSet ∧ decodeTableWord 32 0x0003F00A = some (.transact 0xE 0b111) ∧
    decodeTableWord 32 0x80000001 = none := by decide

/-- Section 3.1's encoding examples, and V-DEC-15: a field a command does not use is ignored. -/
theorem test_decode_examples :
    decode 0x00040106 = .ok (.shift 8 true) ∧ decode 0x00000086 = .ok (.shift 4 false) ∧
    decode 0x00040086 = .ok (.shift 4 true) ∧ decode 0x000000C7 = .ok (.scanIr 6) ∧
    decode 0x0001D80A = .ok (.transact 0b1011 0b011) ∧ decode 0x0000400A = .ok (.transact 0b1000 0b000) ∧
    decode 0x00040008 = .ok (.scanDr 0) ∧ decode 0x00000409 = .ok (.selectIr 0) := by decide

/-- R99's two examples and R100's BOOT, as the host writes them. -/
theorem test_assembler :
    Line.hostEvents parameters ⟨.shift 8 true, 0x89, 0⟩ =
      [write .whenIdle 0x04 0x89, write .whenIdle 0x00 0x00040106] ∧
    Line.hostEvents parameters ⟨.transact 0b1011 0b010, 0x1000, 0⟩ =
      [write .whenIdle 0x04 0x1000, write .whenIdle 0x00 0x0001580A] ∧
    (Pseudo.boot.expand parameters).flatMap (Line.hostEvents parameters) =
      [write .whenIdle 0x00 0x01, write .whenIdle 0x04 0x0000000A, write .whenIdle 0x00 0x03,
        write .whenIdle 0x00 0x17, write .whenIdle 0x00 0x18] := by decide

/-! ## The host interface -/

/-- SCAN_DR 32 written to CMD. -/
theorem witness_StepRunsTheDecodedCommand :
    let s := hosted [cmdWrite parameters 0x00000408]
    s.params.inRange = true ∧ s.host = cmdWrite s.params 0x00000408 :: [] ∧ s.busy = false ∧ s.fault = false ∧
    (hosted []).quiet = true ∧ decode 0x00000408 = .ok (.scanDr 32) ∧ pulses (stepped s) = 38 := by decide +kernel

/-- SHIFT.L 8, 0x89: two events, the second of which runs SHIFT with a0 = 0x89. -/
theorem witness_AssembledLineRuns :
    let l : Line := ⟨.shift 8 true, 0x89, 0⟩
    let s := hosted (l.hostEvents parameters)
    s.params.inRange = true ∧ s.host = l.hostEvents s.params ++ [] ∧ s.busy = false ∧ s.fault = false ∧
    (hosted []).quiet = true ∧ (l.hostEvents s.params).length = 2 ∧ (stepped (stepped s)).a0 = 0x89 := by decide +kernel

/-- V-DEC-2, V-DEC-3 and V-DEC-5 as steps, and the highest reserved bit: a word for each clause, with its STATUS. -/
theorem witness_ReservedWordFaults :
    fresh.params.inRange = true ∧ fresh.busy = false ∧ fresh.fault = false ∧ (hosted []).quiet = true ∧
    (∀ n ∈ [0x00000000, 0x0000001B, 0x0000001F, 0x00080001, 0x80000001],
      ((BitVec.ofNat 32 n).extractLsb' 19 13 ≠ 0 ∨ (BitVec.ofNat 32 n).extractLsb' 0 5 = 0 ∨
        0x1B ≤ ((BitVec.ofNat 32 n).extractLsb' 0 5).toNat) ∧
      (stepped (hosted [cmdWrite parameters (BitVec.ofNat 32 n)])).statusWord = 0x000A0002 ∧
      (stepped (hosted [cmdWrite parameters (BitVec.ofNat 32 n)])).faultValue = BitVec.ofNat 32 n) := by
  decide +kernel

/-- V-FLT-1 and V-FLT-2: a busy block between commands and inside one, and a faulted block. -/
theorem witness_LostCommandWrites :
    let w := write (.after 0) 0x00 0x00000001
    let busy : State := { hosted [w] with busy := true }
    let faulted : State := { hosted [w] with fault := true, faultCode := .ackMismatch, faultValue := 1 }
    busy.params.inRange = true ∧ busy.host = w :: [] ∧ busy.busy = true ∧ (hosted []).quiet = true ∧
    (stepped busy).overrun = true ∧ (finalState hostSlot busy).overrun = true ∧ faulted.host = w :: [] ∧
    faulted.busy = false ∧ faulted.fault = true ∧ (stepped faulted).trace = [] ∧
    (stepped faulted).statusWord = 0x00050002 := by decide +kernel

/-- Each register, and the first and the last offset past the window. -/
theorem witness_RegisterReads :
    let s : State := { fresh with arg0 := 4, arg1 := 8, result := 0xC, faultValue := 0x14, overrun := true }
    s.params.inRange = true ∧
    (∀ n ∈ [0x00, 0x04, 0x08, 0x0C, 0x10, 0x14, 0x18, 0xFFFFFFFC], (BitVec.ofNat 32 n).extractLsb' 0 2 = 0) ∧
    0x18 ≤ (0x18 : Word).toNat ∧ 0x18 ≤ (0xFFFFFFFC : Word).toNat ∧
    ([(0x00 : Word), 0x04, 0x08, 0x0C, 0x10, 0x14, 0x18, 0xFFFFFFFC].map fun o =>
      (stepped { s with host := [read o] }).responses) = [[0], [4], [8], [0xC], [4], [0x14], [0], [0]] := by
  decide +kernel

/-- ARG0, ARG1, the first read-only register, and offsets past the window, on a faulted block (R244). -/
theorem witness_RegisterWrites :
    let s : State := { fresh with fault := true, faultCode := .badIrCode }
    s.params.inRange = true ∧
    (∀ n ∈ [0x04, 0x08, 0x0C, 0x14, 0x18, 0xFFFFFFFC], (BitVec.ofNat 32 n).extractLsb' 0 2 = 0) ∧
    (∀ n ∈ [0x0C, 0x14, 0x18, 0xFFFFFFFC], 0x0C ≤ (BitVec.ofNat 32 n).toNat ∧
      stepped { s with host := [write .whenIdle (BitVec.ofNat 32 n) 7] } = s) ∧
    (stepped { s with host := [write .whenIdle 0x04 7] }).arg0 = 7 ∧
    (stepped { s with host := [write .whenIdle 0x08 7] }).arg1 = 7 := by decide +kernel

/-- Above another BLOCK_BASE: ARG0 and STATUS stand at their offsets from it, CMD at the base, and nothing at 0x04. -/
theorem test_block_base :
    let s (a : Access) : State := { fresh with
      params := { parameters with blockBase := 0x40000100 }, host := [⟨.whenIdle, .access a⟩] }
    (stepped (s (.write .word 0x40000104 7))).arg0 = 7 ∧ (stepped (s (.write .word 0x04 7))).arg0 = 0 ∧
    (stepped (s (.read .word 0x40000110))).responses = [0] ∧
    (stepped (s (.write .word 0x40000100 0x00000001))).statusWord = 0x00000008 := by decide +kernel

/-- A byte write of CMD, a halfword read, and a word access between two registers. -/
theorem witness_NarrowAccessesIgnored :
    fresh.params.inRange = true ∧ AccessSize.byte ≠ .word ∧ (0x02 : Word).extractLsb' 0 2 ≠ 0 ∧
    stepped (hosted [⟨.whenIdle, .access (.write .byte 0x00 1)⟩]) = fresh ∧
    stepped (hosted [⟨.whenIdle, .access (.read .half 0x10)⟩]) = fresh ∧
    stepped (hosted [⟨.whenIdle, .access (.write .word 0x02 1)⟩]) = fresh := by decide +kernel

/-- Inside ENTER_DR: ARG0 written, CMD written, STATUS read while the block is busy. -/
theorem witness_HostAccessesDoNotDisturb :
    let s : State := { answering idle (junk 3) with
      host := [write (.after 0) 0x04 9, write (.after 1) 0x00 1, ⟨.after 0, .access (.read .word 0x10)⟩] }
    (∀ e ∈ s.host, ∃ a, e.act = .access a) ∧ (after .enterDr s).arg0 = 9 ∧ (after .enterDr s).overrun = true ∧
    (after .enterDr s).responses = [0x0000001D] ∧
    (after .enterDr s).trace = (after .enterDr (answering idle (junk 3))).trace := by
  refine ⟨?_, by decide +kernel⟩
  intro e he
  simp only [List.mem_cons, List.not_mem_nil, or_false] at he
  rcases he with rfl | rfl | rfl <;> exact ⟨_, rfl⟩

/-- ENTER_DR has four landing points: at the first and the last an access lands, at the fifth it waits. -/
theorem witness_AccessesLandInsideCommands :
    let s : State := { answering idle (junk 3) with result := 0x55 }
    let due (n : Nat) (a : Access) : State := after .enterDr (s.awaiting n (.access a) [])
    s.busy = true ∧ s.fault = false ∧ ({ s with host := [] } : State).quiet = true ∧
    commandPoints (after .enterDr s).trace (after .enterDr s).fault = 4 ∧
    [0, 3, 4].map (fun n => (due n (.write .word 0x04 9)).arg0) = [9, 9, 0] ∧
    [0, 3, 4].map (fun n => (due n (.write .word 0x00 1)).overrun) = [true, true, false] ∧
    [0, 3, 4].map (fun n => (due n (.read .word 0x0C)).responses) = [[0x55], [0x55], []] ∧
    (due 2 (.read .word 0x10)).responses = [0x00000019] ∧ (due 3 (.read .word 0x10)).responses = [0x00000029] ∧
    (due 4 (.write .word 0x08 9)).host = [⟨.after 0, .access (.write .word 0x08 9)⟩] := by decide +kernel

/-- The STATUS words of V-RST-1, V-SEQ-17, V-DAP-1 and V-DAP-8. -/
theorem test_status :
    fresh.statusWord = 0x00000000 ∧
    (after (.shift 1 true) (scanning .exit1)).statusWord = 0x0008006A ∧
    (after (.selectIr 0b1010) idle).statusWord = 0x00000A98 ∧
    (after .apReadAddr (answering (cached 0b1011) (reply 0b001 0))).statusWord = 0x00050BAA := by decide +kernel

/-! ## Reset -/

/-- ParameterDefaults: the default bypass code at the shortest, another and the longest length. -/
theorem witness_ParameterDefaults : (0 : Nat) ≤ 32 ∧ (8 : Nat) ≤ 32 ∧ (32 : Nat) ≤ 32 ∧
    [0, 8, 32].map (fun n => ({ Params.defaults with icepickIrLen := n }).icepickBypass) = [0, 0xFF, 0xFFFFFFFF] := by
  decide +kernel

/-- V-FLT-3. -/
theorem witness_BlockResetStep :
    let s : State := { hosted [⟨.whenIdle, .rst⟩] with fault := true, faultCode := .cswStatusMismatch, arg0 := 5, pinTms := false }
    s.params.inRange = true ∧ s.host = ⟨.whenIdle, .rst⟩ :: [] ∧ (stepped s).statusWord = 0 ∧ (stepped s).arg0 = 0 ∧
    (stepped s).pinTms = true ∧ pulses (stepped s) = 0 := by decide +kernel

/-- BlockResetStep at acceptance: the command does not even make its initialise request. -/
theorem witness_BlockResetStep_acceptance :
    let s := hosted [cmdWrite parameters 0x01, ⟨.after 0, .rst⟩]
    s.params.inRange = true ∧ s.host = cmdWrite s.params 0x01 :: ⟨.after 0, .rst⟩ :: [] ∧ s.busy = false ∧
    s.fault = false ∧ (stepped s).trace = [.latchReset] ∧ (stepped s).busy = false := by decide +kernel

/-- Inside RESET, which has eight landing points: at the first, between TRST low and high, before the third pulse, right
before completion, and after the command; and inside a command that faults before its first landing point. -/
theorem witness_BlockResetAbandonsTheCommand :
    let s (n : Nat) : State := (answering idle (junk 5)).awaiting n .rst []
    idle.fault = false ∧ commandPoints (after .reset (answering idle (junk 5))).trace false = 8 ∧
    [0, 1, 4, 7, 8].map (fun n => pulses (after .reset (s n))) = [0, 0, 2, 5, 5] ∧
    [0, 1, 4, 7, 8].map (fun n => (after .reset (s n)).tdo.length) = [5, 5, 3, 0, 0] ∧
    [0, 1, 4, 7, 8].map (fun n => (after .reset (s n)).pinInitDone) = [false, false, false, false, true] ∧
    (after .reset (s 1)).pinTrst = true ∧ (after .reset (s 8)).host = [⟨.after 0, .rst⟩] ∧
    commandPoints [] (after (.shift 33 true) idle).fault = 0 ∧
    (after (.shift 33 true) (s 0)).host = [⟨.after 0, .rst⟩] := by decide +kernel

/-! ## TAP Sequencer -/

/-- A host event that waits for the idle block leaves a command undisturbed. -/
theorem witness_quiet : idle.quiet = true ∧ ({ idle with host := [cmdWrite parameters 1] } : State).quiet = true ∧
    ({ idle with host := [⟨.after 0, .rst⟩] } : State).quiet = false := by decide

/-- PulseEvents: one pulse. -/
theorem witness_PulseEvents : (answering idle [true]).quiet = true ∧
    (idle.afterPulse (true, true)).trace.length = 5 ∧ (answering idle [true]).tdoAt 0 = true := by decide +kernel

/-- V-SEQ-1, first command after block reset: PinInit, TRST low, TRST high, five pulses. STATUS of V-DEC-1. -/
theorem witness_ResetCommand : ({ fresh with busy := true } : State).quiet = true ∧
    ((after .reset { fresh with busy := true }).trace.reverse.take 3 =
      [.pinInit, .drive .trst false, .drive .trst true]) ∧
    tmsStream (after .reset { fresh with busy := true }) = stream 5 0b11111 ∧
    (after .reset { fresh with busy := true }).statusWord = 0x00000008 := by decide +kernel

/-- V-SEQ-2 to V-SEQ-5: the four cases. -/
theorem witness_CommitCommand :
    idle.quiet = true ∧ (scanning .exit1).tapState = .shifting ∧
    [{ idle with tapState := .reset }, idle, scanning .exit1, scanning .shift].map (fun s => tmsStream (after .commit s)) =
      [stream 1 0b0, [], stream 2 0b10, stream 3 0b110] := by decide +kernel

/-- P1 from SHIFTING/EXIT1. -/
theorem witness_CommitIdempotent :
    let s := answering (scanning .exit1) (junk 2)
    s.quiet = true ∧ pulses (after .commit s) = 2 ∧ after .commit (after .commit s) = after .commit s := by
  decide +kernel

/-- V-SEQ-6 and V-SEQ-7. -/
theorem witness_RunIdleCommand :
    let s (k : Word) : State := { idle with tapState := .reset, a0 := k }
    (s 10).quiet = true ∧ tmsStream (after .runIdle (s 10)) = stream 11 0 ∧ (s 0).a0 = 0 ∧
    pulses (after .runIdle (s 0)) = 1 := by decide +kernel

/-- V-SEQ-9, V-SEQ-11 and V-SEQ-12. -/
theorem witness_EnterCommands :
    (cached 0b1010).quiet = true ∧ tmsStream (after .enterIr (cached 0b1010)) = stream 4 0b1100 ∧
    (after .enterIr (cached 0b1010)).irValid = false ∧
    tmsStream (after .enterDr { idle with tapState := .reset }) = stream 4 0b0100 ∧
    tmsStream (after .enterDr (scanning .exit1)) = stream 5 0b10100 ∧
    (after .enterDr (cached 0b1010)).irValid = true := by decide +kernel

/-- R130's example: SHIFT.L 8, 0x89 with TDO 1,0,0,1,0,0,0,0. -/
theorem witness_ShiftCommand :
    let s : State := { answering (scanning .shift) (stream 8 0b10010000) with a0 := 0x89 }
    s.quiet = true ∧ (8 : BitVec 6).toNat ≤ 32 ∧ s.tapState = .shifting ∧ s.shiftPhase = .shift ∧
    tdiStream (after (.shift 8 true) s) = stream 8 0b10010001 ∧ tmsStream (after (.shift 8 true) s) = stream 8 0b00000001 ∧
    (after (.shift 8 true) s).result = 0x09 ∧ (after (.shift 8 true) s).shiftPhase = .exit1 := by decide +kernel

/-- V-SEQ-15 and V-SEQ-13: no bits, and an open SHIFT; and all 32 bits of outBits. -/
theorem test_shift_lengths :
    let s : State := { answering (scanning .shift) (junk 40) with a0 := 0x80000005, result := 7 }
    (after (.shift 0 true) s).shiftPhase = .shift ∧ (after (.shift 0 true) s).result = 0 ∧
    tdiStream (after (.shift 3 false) s) = stream 3 0b101 ∧ (after (.shift 3 false) s).shiftPhase = .shift ∧
    tdiStream (after (.shift 32 true) s) = stream 32 0b10100000000000000000000000000001 := by decide +kernel

/-- V-SEQ-18, V-SEQ-19 (no bits still checks) and V-SEQ-17. -/
theorem witness_ShiftCommand_faults :
    idle.quiet = true ∧ (32 : BitVec 6).toNat ≤ 32 ∧ idle.tapState ≠ .shifting ∧
    (after (.shift 4 false) { idle with tapState := .reset }).statusWord = 0x0007000A ∧
    (after (.shift 0 false) idle).statusWord = 0x0007001A ∧ (after (.shift 0 false) idle).faultValue = 1 ∧
    (scanning .exit1).tapState = .shifting ∧ (scanning .exit1).shiftPhase = .exit1 ∧
    pulses (after (.shift 32 true) (scanning .exit1)) = 0 ∧ 32 < (33 : BitVec 6).toNat := by decide +kernel

/-- A capture at the full length, at its first and last bit. -/
theorem witness_CaptureBits : (32 : Nat) ≤ 32 ∧
    ((answering idle (wire 32 0x80000001)).captured 0 32) = 0x80000001 ∧
    ((answering idle (wire 32 0xFFFFFFFF)).captured 31 1) = 1 := by decide +kernel

/-- V-SEQ-21 and V-SEQ-22. -/
theorem witness_ScanCommands :
    let s : State := { answering idle (junk 5 ++ wire 6 1 ++ junk 2) with tapState := .reset, a0 := 0x07 }
    let d : State := { answering idle (drScan 8 0) with a0 := 0x89 }
    s.quiet = true ∧ (6 : BitVec 6).toNat ≤ 32 ∧ 32 < (33 : BitVec 6).toNat ∧ (32 : BitVec 6).toNat ≤ 32 ∧
    tmsStream (after (.scanIr 6) s) = stream 13 0b0110000000110 ∧
    tdiStream (after (.scanIr 6) s) = stream 13 0b0000011100000 ∧ (after (.scanIr 6) s).result = 0x00000001 ∧
    tmsStream (after (.scanDr 8) d) = stream 13 0b1000000000110 ∧
    tdiStream (after (.scanDr 8) d) = stream 13 0b0001001000100 := by decide +kernel

/-- V-SEQ-24, V-SEQ-25 and V-SEQ-26. -/
theorem test_scan_lengths :
    tmsStream (after (.scanIr 0) idle) = stream 7 0b1100110 ∧ tmsStream (after (.scanDr 0) idle) = stream 6 0b100110 ∧
    pulses (after (.scanDr 32) (answering idle (drScan 32 0x0B94402F))) = 37 ∧
    (after (.scanDr 32) (answering idle (drScan 32 0x0B94402F))).result = 0x0B94402F := by decide +kernel

/-- One bit and 32 bits; the premises on `exec` hold by `exec_after`. -/
theorem witness_ScanIsEnterShiftCommit :
    let s : State := { answering idle (drScan 32 0x12345678) with a0 := 0x89 }
    s.quiet = true ∧ 1 ≤ (1 : BitVec 6).toNat ∧ (32 : BitVec 6).toNat ≤ 32 ∧
    (after .commit (after (.shift 32 true) (after .enterDr s))).result = 0x12345678 ∧
    pulses (after .commit (after (.shift 1 true) (after .enterIr s))) = 7 := by decide +kernel

/-- PROG-5's split, 4 bits and 4 bits, and the lengths 0 + 1 and 31 + 1; the premises on `exec` hold by `exec_after`. -/
theorem witness_SplitShiftIsOneShift :
    let s := answering (scanning .shift) (junk 40)
    s.quiet = true ∧ s.tapState = .shifting ∧ s.shiftPhase = .shift ∧
    1 ≤ (4 : BitVec 6).toNat ∧ (4 : BitVec 6).toNat + (4 : BitVec 6).toNat ≤ 32 ∧
    (31 : BitVec 6).toNat + (1 : BitVec 6).toNat ≤ 32 ∧
    pulses (after (.shift 4 true) (after (.shift 4 false) s)) = 8 ∧
    pulses (after (.shift 1 true) (after (.shift 31 false) s)) = 32 ∧
    pulses (after (.shift 1 true) (after (.shift 0 false) s)) = 1 := by decide +kernel

/-- V-DEC-6, V-DEC-7, V-DEC-8, V-DEC-10 and V-DEC-12. -/
theorem witness_OperandsOutOfRange :
    32 < (33 : BitVec 6).toNat ∧ (0xE : BitVec 4) ≠ idle.params.dapIrAbort ∧ (0xE : BitVec 4) ≠ idle.params.dapIrDpacc ∧
    (0xE : BitVec 4) ≠ idle.params.dapIrApacc ∧
    (after (.scanDr 33) { fresh with busy := true }).statusWord = 0x000B0002 ∧
    (after (.scanDr 63) fresh).faultValue = 0x3F ∧ (after (.shift 33 true) fresh).faultValue = 0x21 ∧
    (after (.selectIr 0) fresh).statusWord = 0x00090002 ∧ (after (.transact 0xE 0b111) fresh).faultValue = 0xE := by
  decide +kernel

/-! ## DAP engine -/

/-- V-DAP-1, V-DAP-2, V-DAP-4, and a hit in an open scan. -/
theorem witness_SelectIrCommand :
    let open_ : State := { cached 0b1010 with tapState := .shifting }
    idle.quiet = true ∧ idle.params.isAccessIr 0b1010 = true ∧ idle.params.isAccessIr 0b1110 = false ∧ open_.irValid = true ∧ open_.irCache = 0b1010 ∧
    ¬(idle.irValid = true ∧ idle.irCache = 0b1010) ∧
    tmsStream (after (.selectIr 0b1010) idle) = stream 16 0b1100000000000110 ∧
    tdiStream (after (.selectIr 0b1010) idle) = stream 16 0b0000010111111100 ∧
    (after (.selectIr 0b1010) open_).trace = [] ∧ (after (.selectIr 0b1010) open_).tapState = .shifting ∧
    (after (.selectIr 0b1000) (cached 0b1010)).statusWord = 0x00000898 := by decide +kernel

/-- R94 at another ICEPick IR length: eight ones above the DAP code by default, and the value ICEPICK_BYPASS is set to. -/
theorem test_icepickBypass :
    let s (b : Option Word) : State :=
      { idle with params := { parameters with icepickIrLen := 8, icepickBypassSet := b } }
    ((tdiStream (after (.selectIr 0b1010) (s none))).drop 4).take 12 = wire 12 0xFFA ∧
    ((tdiStream (after (.selectIr 0b1010) (s (some 0x7F)))).drop 4).take 12 = wire 12 0x7FA := by
  decide +kernel

/-- PROG-3's second and last SELECT_IR: no scan, and a scan of the same code after RESET. -/
theorem witness_IrCacheLaw :
    idle.quiet = true ∧ idle.params.isAccessIr 0b1011 = true ∧
    pulses (after (.selectIr 0b1011) (cached 0b1011)) = 0 ∧
    pulses (after (.selectIr 0b1011) { idle with tapState := .reset, irCache := 0b1011 }) = 17 := by decide +kernel

/-- V-DAP-6: TRANSACT APACC, 0b010, 0xA on a hit. -/
theorem witness_TransactCommand :
    let s : State := { answering (cached 0b1011) (reply 0b010 0xF0000000) with a0 := 0x0000000A }
    s.quiet = true ∧ s.params.isAccessIr 0b1011 = true ∧ s.ackOk ⟨0b1011, 0b010, s.a0⟩ = true ∧
    tmsStream (after (.transact 0b1011 0b010) s) = stream 3 0b100 ++ stream 3 0b000 ++ junk 32 ++ [true] ++ stream 2 0b10 ++ [false] ∧
    tdiStream (after (.transact 0b1011 0b010) s) =
      junk 3 ++ stream 3 0b010 ++ stream 4 0b0101 ++ junk 28 ++ [false] ++ junk 2 ++ [false] ∧
    (after (.transact 0b1011 0b010) s).result = 0xF0000000 ∧
    (after (.transact 0b1011 0b010) s).statusWord = 0x00000B98 := by decide +kernel

/-- V-DAP-17 to V-DAP-27: op3 and arg32 of the eleven named commands, on a cache hit with an OK ack: 42 pulses each. -/
theorem witness_NamedCommands :
    ∀ e ∈ [(Instr.dpAbort, (0b1000 : BitVec 4), 0b000, 0x00000001), (.dpWriteCsw, 0b1010, 0b010, 0x50000032),
        (.dpReadCsw, 0b1010, 0b011, 0), (.dpWriteSelect, 0b1010, 0b100, 0x50000032), (.dpNop, 0b1010, 0b111, 0),
        (.apWriteCsw, 0b1011, 0b000, 0x50000032), (.apReadCsw, 0b1011, 0b001, 0), (.apWriteAddr, 0b1011, 0b010, 0x50000032),
        (.apReadAddr, 0b1011, 0b011, 0), (.apWriteData, 0b1011, 0b110, 0x50000032), (.apReadData, 0b1011, 0b111, 0)],
      let s : State := { answering (cached e.2.1) (reply 0b010 0x12) with a0 := 0x50000032 }
      s.quiet = true ∧ s.ackOk ⟨e.2.1, BitVec.ofNat 3 e.2.2.1, BitVec.ofNat 32 e.2.2.2⟩ = true ∧
      ((tdiStream (after e.1 s)).drop 3).take 35 = wire 3 e.2.2.1 ++ wire 32 e.2.2.2 ∧ pulses (after e.1 s) = 42 ∧
      (after e.1 s).result = 0x12 := by decide +kernel

/-- The op3 of DP_NOP is a parameter. -/
theorem test_op3_parameter :
    let s : State := { answering (cached 0b1010) (reply 0b010 0) with params := { parameters with op3DpNop := 0b101 } }
    ((tdiStream (after .dpNop s)).drop 3).take 3 = wire 3 0b101 ∧
    s.initPins.exchanges (requestsOf s .dpNop).toList.flatten = [⟨⟨0b1010, 0b101, 0⟩, 0b010, some 0⟩] := by
  decide +kernel

/-- V-DAP-8 and V-DAP-9, and the fifth transaction of AP_READ. -/
theorem witness_AckMismatchStops :
    let s := answering (cached 0b1011) (reply 0b001 0)
    let r := answering (cached 0b1011) (replies [0, 0] ++ junk 16 ++ replies [0, 0] ++ reply 0b111 0)
    s.quiet = true ∧ Instr.wellFormed s.params .apReadAddr = true ∧ requestsOf s .apReadAddr = some [⟨0b1011, 0b011, 0⟩] ∧
    s.initPins.acksOk ([⟨0b1011, 0b011, 0⟩].take 0) = true ∧
    (s.initPins.transactedAll ([⟨0b1011, 0b011, 0⟩].take 0)).ackOk ⟨0b1011, 0b011, 0⟩ = false ∧
    tmsStream (after .apReadAddr s) = stream 6 0b100000 ∧ tdiStream (after .apReadAddr s) = stream 6 0b000110 ∧
    (after .apReadAddr s).faultValue = 1 ∧
    (requestsOf r .apRead).map (fun rs => (rs[4]?, r.initPins.acksOk (rs.take 4))) =
      some (some ⟨0b1010, 0b111, 0⟩, true) ∧
    (after .apRead r).faultCode = .ackMismatch ∧ (after .apRead r).faultValue = 7 := by decide +kernel

/-- V-DAP-28. -/
theorem witness_CheckedReadCommand :
    let s := answering (cached 0b1011) (junk 16 ++ replies [0x12345678, 0, 0xF0000000])
    s.quiet = true ∧ s.initPins.acksOk (checkedReadRequests s.params) = true ∧ s.initPins.cswRead = s.params.cswExpect ∧
    pulses (after .checkedRead s) = 142 ∧ (after .checkedRead s).result = 0x12345678 ∧
    (after .checkedRead s).irCache = 0b1010 := by decide +kernel

/-- V-DAP-29, and V-AP-4: AP_READ with a failing CSW. -/
theorem witness_CswMismatchFaults :
    let s := answering (cached 0b1011) (junk 16 ++ replies [0x12345678, 0, 0xF0000020])
    let r := answering (cached 0b1011) (replies [0, 0] ++ junk 16 ++ replies [0x12345678, 0, 0xF0000020])
    s.quiet = true ∧ requestsOf s .checkedRead = some ([] ++ checkedReadRequests s.params) ∧
    s.initPins.acksOk ([] ++ checkedReadRequests s.params) = true ∧
    (s.initPins.transactedAll []).cswRead ≠ s.params.cswExpect ∧ pulses (after .checkedRead s) = 142 ∧
    (after .checkedRead s).faultValue = 0xF0000020 ∧ (after .checkedRead s).result = 0 ∧
    requestsOf r .apRead = some (readRequests r.params r.a0 ++ checkedReadRequests r.params) ∧
    r.initPins.acksOk (readRequests r.params r.a0 ++ checkedReadRequests r.params) = true ∧
    (r.initPins.transactedAll (readRequests r.params r.a0)).cswRead ≠ r.params.cswExpect ∧
    pulses (after .apRead r) = 226 ∧ (after .apRead r).statusWord = 0x00060A9A := by decide +kernel

/-- V-DAP-31. -/
theorem witness_DapInitCommand :
    let s := answering idle (initSamples 0x3BA00477 0xF0000000)
    s.quiet = true ∧ s.initPins.atDapIdcode.scanValue .dr 32 = s.params.dapIdcode ∧
    s.initPins.dapIdentified.acksOk (initRequests s.params) = true ∧
    (s.initPins.dapIdentified.transacted ⟨s.params.dapIrDpacc, 0b010, s.params.dpCtrlPowerup⟩).cswRead =
      s.params.cswExpect ∧
    pulses (after .dapInit s) = 337 ∧ (after .dapInit s).statusWord = 0x00000B98 := by decide +kernel

/-- V-DAP-32. -/
theorem witness_DapIdcodeMismatch :
    let s := answering idle (initSamples 0x4BA00477 0xF0000000)
    s.quiet = true ∧ s.initPins.atDapIdcode.scanValue .dr 32 ≠ s.params.dapIdcode ∧
    pulses (after .dapInit s) = 53 ∧ (after .dapInit s).statusWord = 0x0004001A ∧
    (after .dapInit s).faultValue = 0x4BA00477 := by decide +kernel

/-- DAP_INIT stopped by its first ack, by its sixth, and by a DP CSW of 0 (V-DAP-30's value). -/
theorem witness_DapInitStops :
    let s := answering idle (junk 16 ++ drScan 32 0x3BA00477 ++ junk 16 ++ reply 0b001 0)
    let l := answering idle (junk 16 ++ drScan 32 0x3BA00477 ++ junk 16 ++ replies [0, 0, 0, 0xF0000000, 0] ++ junk 16 ++ reply 0b100 0)
    let c := answering idle (initSamples 0x3BA00477 0)
    s.quiet = true ∧ s.initPins.atDapIdcode.scanValue .dr 32 = s.params.dapIdcode ∧
    (initRequests s.params)[0]? = some ⟨0b1010, 0b010, 0x50000032⟩ ∧
    s.initPins.dapIdentified.acksOk ((initRequests s.params).take 0) = true ∧
    (s.initPins.dapIdentified.transactedAll ((initRequests s.params).take 0)).ackOk ⟨0b1010, 0b010, 0x50000032⟩ = false ∧
    (after .dapInit s).faultCode = .ackMismatch ∧
    (initRequests l.params)[5]? = some ⟨0b1011, 0b000, 0x12⟩ ∧
    l.initPins.dapIdentified.acksOk ((initRequests l.params).take 5) = true ∧
    (l.initPins.dapIdentified.transactedAll ((initRequests l.params).take 5)).ackOk ⟨0b1011, 0b000, 0x12⟩ = false ∧
    (after .dapInit l).faultValue = 4 ∧
    (l.initPins.dapIdentified.transacted ⟨l.params.dapIrDpacc, 0b010, l.params.dpCtrlPowerup⟩).cswRead =
      l.params.cswExpect ∧
    c.initPins.dapIdentified.acksOk ((initRequests c.params).take 4) = true ∧
    (c.initPins.dapIdentified.transacted ⟨c.params.dapIrDpacc, 0b010, c.params.dpCtrlPowerup⟩).cswRead ≠
      c.params.cswExpect ∧
    (after .dapInit c).faultCode = .cswStatusMismatch := by decide +kernel

/-! ## ICEPick bring-up -/

/-- V-BRING-1; the router words are shifted in Scenario E's order (rows 6 and 9). -/
theorem witness_BringupCommand :
    let s := answering idle (bringupSamples 0x0B94402F 0x09 0x60002000 0x2C002100)
    s.quiet = true ∧ s.initPins.idcodeOk = true ∧ s.initPins.identified.connectOk = true ∧
    s.initPins.atRouters.routersOk s.params.routerWords = true ∧ pulses (after .icepickBringup s) = 277 ∧
    (after .icepickBringup s).statusWord = 0x00000018 ∧
    ((tdiStream (after .icepickBringup s)).drop (37 + 12 + 13 + 13 + 12 + 3)).take 32 = wire 32 0xE0002000 ∧
    ((tdiStream (after .icepickBringup s)).drop (37 + 12 + 13 + 13 + 12 + 84 + 3)).take 32 = wire 32 0xAC002100 := by
  decide +kernel

/-- V-BRING-2, V-BRING-4 and V-BRING-5, and the second router word's read-back. -/
theorem witness_BringupMismatches :
    let a := answering idle (bringupSamples 0x0B94502F 0x09 0x60002000 0x2C002100)
    let b := answering idle (bringupSamples 0xFB94402F 0x00 0x60002000 0x2C002100)
    let c := answering idle (bringupSamples 0x0B94402F 0xF9 0x3BA00477 0x2C002100)
    let d := answering idle (bringupSamples 0x0B94402F 0x09 0x60002000 0xAC002100)
    a.quiet = true ∧ a.initPins.idcodeOk = false ∧ pulses (after .icepickBringup a) = 37 ∧
    (after .icepickBringup a).statusWord = 0x0001001A ∧ (after .icepickBringup a).faultValue = 0x0B94502F ∧
    b.initPins.idcodeOk = true ∧ b.initPins.identified.connectOk = false ∧ pulses (after .icepickBringup b) = 75 ∧
    (after .icepickBringup b).statusWord = 0x0002001A ∧
    c.params.routerWords = [] ++ 0x60002000 :: [0x2C002100] ∧ c.initPins.idcodeOk = true ∧
    c.initPins.identified.connectOk = true ∧ c.initPins.atRouters.routersOk [] = true ∧
    c.initPins.atRouters.routerOk 0x60002000 = false ∧ pulses (after .icepickBringup c) = 161 ∧
    (after .icepickBringup c).statusWord = 0x0003001A ∧
    d.params.routerWords = [0x60002000] ++ 0x2C002100 :: [] ∧ d.initPins.atRouters.routersOk [0x60002000] = true ∧
    ([(0x60002000 : Word)].foldl State.routerConfigured d.initPins.atRouters).routerOk 0x2C002100 = false ∧
    (after .icepickBringup d).faultValue = 0xAC002100 := by decide +kernel

/-! ## AP memory -/

/-- V-AP-1. -/
theorem witness_ApReadCommand :
    let s : State := { answering (cached 0b1011) (replies [0, 0] ++ junk 16 ++ replies [0xDEADBEEF, 0, 0xF0000000]) with
      a0 := 0x80001FB8 }
    s.quiet = true ∧ s.initPins.acksOk (readRequests s.params s.a0 ++ checkedReadRequests s.params) = true ∧
    (s.initPins.transactedAll (readRequests s.params s.a0)).cswRead = s.params.cswExpect ∧
    pulses (after .apRead s) = 226 ∧ (after .apRead s).result = 0xDEADBEEF ∧
    (after .apRead s).statusWord = 0x00000A98 ∧
    ((tdiStream (after .apRead s)).drop 6).take 32 = wire 32 0x80001FB8 := by decide +kernel

/-- V-AP-2. -/
theorem witness_ApWriteCommand :
    let s : State := { answering (cached 0b1010) (junk 16 ++ replies [0, 0] ++ junk 16 ++ replies [9, 0, 0xF0000000]) with
      a0 := 0x80001080, a1 := 1, result := 5 }
    s.quiet = true ∧ s.initPins.acksOk (writeRequests s.params s.a0 s.a1 ++ checkedReadRequests s.params) = true ∧
    (s.initPins.transactedAll (writeRequests s.params s.a0 s.a1)).cswRead = s.params.cswExpect ∧
    pulses (after .apWrite s) = 242 ∧ (after .apWrite s).result = 5 ∧
    ((tdiStream (after .apWrite s)).drop (58 + 6)).take 32 = wire 32 1 := by decide +kernel

/-- A target whose every request goes well: the DP CSW for a DP_READ_CSW, a data word otherwise. -/
def goodTarget : Target where
  status _ := 0b010
  answer
    | ⟨_, 0b011, _⟩ :: _ => 0xF0000000
    | _ => 0xDEADBEEF

/-- The same, but that a DRW read is not acknowledged OK. -/
def waitingTarget : Target where
  status
    | ⟨0b1011, 0b111, _⟩ :: _ => 0b001
    | _ => 0b010
  answer := goodTarget.answer

def apReadState : State :=
  answering (cached 0b1011) (replies [0, 0] ++ junk 16 ++ replies [0xDEADBEEF, 0xDEADBEEF, 0xF0000000])

/-- AP_READ's five transactions as V-AP-1's target answers them. -/
theorem apReadState_exchanges :
    apReadState.initPins.exchanges (readRequests apReadState.params apReadState.a0 ++
      checkedReadRequests apReadState.params) =
      [⟨⟨0b1011, 0b010, 0⟩, 0b010, some 0⟩, ⟨⟨0b1011, 0b111, 0⟩, 0b010, some 0⟩,
        ⟨⟨0b1010, 0b111, 0⟩, 0b010, some 0xDEADBEEF⟩, ⟨⟨0b1010, 0b011, 0⟩, 0b010, some 0xDEADBEEF⟩,
        ⟨⟨0b1010, 0b111, 0⟩, 0b010, some 0xF0000000⟩] := by decide +kernel

/-- V-AP-1's target keeps the contract, with any write before it. -/
theorem apReadState_keepsPipeline :
    keepsPipeline apReadState.params goodTarget []
      (apReadState.initPins.exchanges (readRequests apReadState.params apReadState.a0 ++
        checkedReadRequests apReadState.params)) := by
  rw [apReadState_exchanges]
  simp [keepsPipeline, goodTarget, Request.isRead, apReadState, answering, cached, idle, fresh, parameters,
    Params.defaults]

theorem witness_ApReadReturnsTheBusRead :
    apReadState.quiet = true ∧ apReadState.fault = false ∧
    apReadState.params.dapIrApacc ≠ apReadState.params.dapIrAbort ∧
    apReadState.params.dapIrDpacc ≠ apReadState.params.dapIrAbort ∧
    apReadState.params.op3ApReadData.getLsbD 0 = true ∧
    exec .apRead apReadState = .next (after .apRead apReadState) ∧ (after .apRead apReadState).fault = false ∧
    (after .apRead apReadState).result = 0xDEADBEEF :=
  ⟨by decide +kernel, by decide +kernel, by decide +kernel, by decide +kernel, by decide +kernel, exec_after _ _,
    by decide +kernel, by decide +kernel⟩

/-- AP_READ on a target that does not acknowledge the DRW read OK: the third transaction's ack says so. -/
def apReadRefusedState : State := answering (cached 0b1011) (replies [0, 0] ++ junk 16 ++ reply 0b001 0)

theorem witness_AcksReportOnPreviousTransactions :
    let rs := readRequests apReadRefusedState.params apReadRefusedState.a0 ++ checkedReadRequests apReadRefusedState.params
    apReadRefusedState.quiet = true ∧ apReadRefusedState.fault = false ∧
    Instr.wellFormed apReadRefusedState.params .apRead = true ∧ requestsOf apReadRefusedState .apRead = some rs ∧
    (∀ k < rs.length, (rs[k]?.map Request.ir) ≠ some apReadRefusedState.params.dapIrAbort) ∧
    keepsPipeline apReadRefusedState.params waitingTarget [] (apReadRefusedState.initPins.exchanges rs) ∧
    exec .apRead apReadRefusedState = .next (after .apRead apReadRefusedState) ∧
    (after .apRead apReadRefusedState).faultCode = .ackMismatch ∧
    (after .apRead apReadRefusedState).faultValue = 0b001 ∧
    (apReadRefusedState.initPins.exchanges rs).length = 3 := by
  have e : apReadRefusedState.initPins.exchanges (readRequests apReadRefusedState.params apReadRefusedState.a0 ++
      checkedReadRequests apReadRefusedState.params) =
      [⟨⟨0b1011, 0b010, 0⟩, 0b010, some 0⟩, ⟨⟨0b1011, 0b111, 0⟩, 0b010, some 0⟩,
        ⟨⟨0b1010, 0b111, 0⟩, 0b001, none⟩] := by decide +kernel
  refine ⟨by decide +kernel, by decide +kernel, by decide +kernel, by decide +kernel, by decide +kernel, ?_,
    exec_after _ _, by decide +kernel, by decide +kernel, by decide +kernel⟩
  rw [e]
  simp [keepsPipeline, waitingTarget, Request.isRead, apReadRefusedState, answering, cached, idle, fresh, parameters,
    Params.defaults]

/-- DP_NOP after an AP_READ_DATA, on a target that acknowledges it and on one that does not. -/
theorem witness_TransactionReportsOnThePreviousOne :
    let s (ack data : Nat) : State := answering (cached 0b1010) (reply ack data)
    let q : Request := ⟨0b1011, 0b111, 0⟩
    let r : Request := ⟨0b1010, 0b111, 0⟩
    (s 2 0).quiet = true ∧ (s 2 0).fault = false ∧ Instr.wellFormed (s 2 0).params .dpNop = true ∧
    requestsOf (s 2 0) .dpNop = some [r] ∧ r.ir ≠ (s 2 0).params.dapIrAbort ∧ q.isRead = true ∧
    keepsPipeline (s 2 0xDEADBEEF).params goodTarget (q :: []) ((s 2 0xDEADBEEF).initPins.exchanges [r]) ∧
    keepsPipeline (s 1 0).params waitingTarget (q :: []) ((s 1 0).initPins.exchanges [r]) ∧
    exec .dpNop (s 1 0) = .next (after .dpNop (s 1 0)) ∧
    (after .dpNop (s 2 0xDEADBEEF)).result = 0xDEADBEEF ∧ (after .dpNop (s 1 0)).faultValue = 0b001 := by
  have good : (answering (cached 0b1010) (reply 2 0xDEADBEEF)).initPins.exchanges [⟨0b1010, 0b111, 0⟩] =
      [⟨⟨0b1010, 0b111, 0⟩, 0b010, some 0xDEADBEEF⟩] := by decide +kernel
  have bad : (answering (cached 0b1010) (reply 1 0)).initPins.exchanges [⟨0b1010, 0b111, 0⟩] =
      [⟨⟨0b1010, 0b111, 0⟩, 0b001, none⟩] := by decide +kernel
  refine ⟨by decide +kernel, by decide +kernel, by decide +kernel, by decide +kernel, by decide +kernel,
    by decide +kernel, ?_, ?_, exec_after _ _, by decide +kernel, by decide +kernel⟩
  · simp only [good]
    simp [keepsPipeline, goodTarget, Request.isRead, answering, cached, idle, fresh, parameters, Params.defaults]
  · simp only [bad]
    simp [keepsPipeline, waitingTarget, Request.isRead, answering, cached, idle, fresh, parameters, Params.defaults]

def checkedReadState : State :=
  answering (cached 0b1011) (junk 16 ++ replies [0xDEADBEEF, 0xDEADBEEF, 0xF0000000])

/-- V-DAP-28's sequence after a pending AP_READ_DATA. -/
theorem witness_CheckedReadReturnsThePendingRead :
    checkedReadState.quiet = true ∧ checkedReadState.fault = false ∧
    checkedReadState.params.dapIrDpacc ≠ checkedReadState.params.dapIrAbort ∧
    checkedReadState.params.op3DpReadCsw.getLsbD 0 = true ∧ (Request.mk 0b1011 0b111 0).isRead = true ∧
    exec .checkedRead checkedReadState = .next (after .checkedRead checkedReadState) ∧
    (after .checkedRead checkedReadState).fault = false ∧
    keepsPipeline checkedReadState.params goodTarget [⟨0b1011, 0b111, 0⟩]
      (checkedReadState.initPins.exchanges (checkedReadRequests checkedReadState.params)) := by
  have e : checkedReadState.initPins.exchanges (checkedReadRequests checkedReadState.params) =
      [⟨⟨0b1010, 0b111, 0⟩, 0b010, some 0xDEADBEEF⟩, ⟨⟨0b1010, 0b011, 0⟩, 0b010, some 0xDEADBEEF⟩,
        ⟨⟨0b1010, 0b111, 0⟩, 0b010, some 0xF0000000⟩] := by decide +kernel
  refine ⟨by decide +kernel, by decide +kernel, by decide +kernel, by decide +kernel, by decide +kernel,
    exec_after _ _, by decide +kernel, ?_⟩
  rw [e]
  simp [keepsPipeline, goodTarget, Request.isRead, checkedReadState, answering, cached, idle, fresh, parameters,
    Params.defaults]

/-! ## Rules over all commands -/

/-- Every command of one kind or the other: a silent one (AP_WRITE), and a fault of one that writes RESULT. -/
theorem witness_ResultWriters : (cached 0b1011).quiet = true ∧ (cached 0b1011).fault = false ∧
    exec .commit idle = .next (after .commit idle) ∧ writesResult .commit = false ∧
    writesResult .apReadAddr = true ∧ (after .apReadAddr (answering (cached 0b1011) (reply 0b001 0))).fault = true := by
  refine ⟨by decide, by decide, exec_after _ _, by decide, by decide, by decide +kernel⟩

/-- R39's rows for SELECT_IR on a miss and for SHIFT.L 0. -/
theorem witness_ProtocolStateWriters :
    idle.quiet = true ∧ idle.fault = false ∧ (after (.selectIr 0b1010) idle).fault = false ∧
    (after (.selectIr 0b1010) idle).irCache = 0b1010 ∧ (after (.shift 0 true) (scanning .shift)).fault = false ∧
    (after (.shift 0 true) (scanning .shift)).tapState = .shifting := by decide +kernel

/-- CommandFrame: a fault keeps ARG0 too. -/
theorem witness_CommandFrame : let s : State := { idle with arg0 := 3, a0 := 4 }
    s.quiet = true ∧ (after (.shift 1 true) s).fault = true ∧ (after (.shift 1 true) s).arg0 = 3 ∧
    (after (.shift 1 true) s).busy = false := by decide +kernel

/-- DP_NOP uses neither operand, RUN_IDLE the first, AP_WRITE both. -/
theorem witness_UnusedOperandsIgnored : idle.quiet = true ∧ usesArg0 .dpNop = false ∧ usesArg0 .runIdle = true ∧
    usesArg0 .apWrite = true ∧ exec .dpNop idle = .next (after .dpNop idle) :=
  ⟨by decide, by decide, by decide, by decide, exec_after _ _⟩

/-- R291's first and last row from IDLE: COMMIT, and ICEPICK_BRINGUP where it completes. -/
theorem witness_PulseCounts : defaultCounts parameters = true ∧ pulseCount idle .commit = 0 ∧
    (after .commit idle).fault = false ∧ pulseCount idle .icepickBringup = 277 ∧
    (after .icepickBringup (answering idle (bringupSamples 0x0B94402F 0x09 0x60002000 0x2C002100))).fault = false := by
  decide +kernel

/-- V-FLT-2: a faulted block, a CMD write, a read and an ARG0 write. -/
theorem witness_FaultIsSticky :
    let s (e : HostEvent) : State := { hosted [e] with fault := true, faultCode := .badIrCode, faultValue := 2 }
    (s (read 0x14)).params.inRange = true ∧ (s (read 0x14)).fault = true ∧ (s (read 0x14)).busy = false ∧
    (read 0x14).act ≠ .rst ∧ (stepped (s (cmdWrite parameters 1))).fault = true ∧
    (stepped (s (read 0x14))).responses = [2] ∧ (stepped (s (write .whenIdle 0x04 7))).arg0 = 7 := by decide +kernel

/-- InvariantKept: it holds of a state that is not the reset state and has a next step. -/
theorem witness_InvariantKept :
    let s : State := { hosted [cmdWrite parameters 0x01] with
      irValid := true, irCache := 0b1011, tapState := .idle, pinInitDone := true, pinTms := false
      trace := [.drive .tms false, .pinInit] }
    BlockInvariant s ∧ step s = .next (stepped s) ∧ pulses (stepped s) = 5 := by
  refine ⟨⟨rfl, rfl, rfl, fun _ => rfl, fun _ => by decide, by decide, fun _ => rfl, rfl, rfl, rfl, rfl, ?_⟩, rfl,
    by decide +kernel⟩
  exact ⟨[.drive .tms false], by decide, by decide⟩

/-- TapRecordStaysTrue: in Run-Test/Idle, and inside each kind of scan. -/
theorem witness_TapRecordStaysTrue : idle.quiet = true ∧ idle.believes .runTestIdle = true ∧
    (scanning .shift).believes (.shift .ir) = true ∧ (scanning .exit1).believes (.exit1 .dr) = true ∧
    fresh.believes .testLogicReset = true := by decide

/-- ResetRestoresAgreement: the controller is in Update-IR while the block believes Run-Test/Idle. -/
theorem witness_ResetRestoresAgreement : idle.quiet = true ∧ idle.believes (.update .ir) = false ∧
    ∀ k, TapCtl.update .ir ≠ .pause k := by
  refine ⟨by decide, by decide, fun k => by simp⟩

end Sys2Proof.Tests
end

section
/-! The values of the scope chapter (00_scope.md R7, R10, R15): the bits of a serial capture, and the parameter defaults. -/

namespace Sys2Proof.Machine

/-! ## Serial captures -/

/-- Bit 0 of a capture is its first sample. -/
theorem assemble_cons_getLsbD_zero (b : Bool) (bs : List Bool) : (assemble (b :: bs)).getLsbD 0 = b := by
  simp [assemble]

/-- Prepending a sample moves every other sample up by one bit, within the word. -/
theorem assemble_cons_getLsbD_succ (b : Bool) (bs : List Bool) (j : Nat) :
    (assemble (b :: bs)).getLsbD (j + 1) = (decide (j + 1 < 32) && (assemble bs).getLsbD j) := by
  simp [assemble]

/-- R10, R15: bit `j` of a capture is sample `j`, and 0 past the last sample. -/
theorem assemble_getLsbD (bs : List Bool) (j : Nat) :
    (assemble bs).getLsbD j = (decide (j < 32) && bs[j]?.getD false) := by
  induction bs generalizing j with
  | nil => simp [assemble]
  | cons b bs ih =>
    cases j with
    | zero => simpa using assemble_cons_getLsbD_zero b bs
    | succ j =>
      have hword : j + 1 < 32 → j < 32 := Nat.lt_of_succ_lt
      rw [assemble_cons_getLsbD_succ, ih, List.getElem?_cons_succ]
      by_cases hj : j + 1 < 32
      · simp [hj, hword hj]
      · simp [hj]

/-- Settles O27: the list of a capture's samples, read bit by bit. -/
theorem captureBits : Obligations.CaptureBits := by
  intro s k n j hn
  rw [State.captured, assemble_getLsbD]
  by_cases hj : j < n
  · have hword : j < 32 := Nat.lt_of_lt_of_le hj hn
    simp [hj, hword]
  · simp [hj]

end Sys2Proof.Machine

namespace Sys2Proof

/-! ## Parameter defaults -/

/-- R7: where ICEPICK_BYPASS is not set, it is all ones of ICEPICK_IR_LEN bits, for every length a word holds. -/
theorem Params.icepickBypass_getLsbD_of_unset {p : Params} (hset : p.icepickBypassSet = none)
    (hlen : p.icepickIrLen ≤ 32) (j : Nat) : p.icepickBypass.getLsbD j = decide (j < p.icepickIrLen) := by
  have hones : p.icepickBypass = BitVec.ofNat 32 (2 ^ p.icepickIrLen - 1) := by simp [Params.icepickBypass, hset]
  have hword : j < p.icepickIrLen → j < 32 := fun hj => Nat.lt_of_lt_of_le hj hlen
  simpa [hones, BitVec.getLsbD_ofNat, Nat.testBit_two_pow_sub_one] using hword

/-- Settles O16: the fixed values are those of the definition, and the bypass code follows the ICEPick IR length. -/
theorem parameterDefaults : Obligations.ParameterDefaults := by
  unfold Obligations.ParameterDefaults
  iterate 35 refine ⟨rfl, ?_⟩
  exact fun _ j hn => Params.icepickBypass_getLsbD_of_unset rfl hn j

end Sys2Proof
end

section
/-! The host's side of the block (10_state.md R29 to R34, R38): the STATUS word field by field, the encodings and the
reset values, and one step on a host access. -/

namespace Sys2Proof.Machine

/-! ## STATUS -/

/-- From its lowest bit on, a placed field reads as the field, and 0 past the field's width. -/
theorem placed_getLsbD_from {n : Nat} (v : BitVec n) {lo j : Nat} (hlo : lo ≤ j) (hw : j < 32) :
    (placed v lo).getLsbD j = v.getLsbD (j - lo) := by
  simp [placed, hw, Nat.not_lt.mpr hlo]

theorem placed_getLsbD_below {n : Nat} (v : BitVec n) {lo j : Nat} (h : j < lo) : (placed v lo).getLsbD j = false := by
  simp [placed, h]

/-- STATUS bit by bit, each field at its place (R31). -/
theorem statusWord_getLsbD (s : State) (j : Nat) :
    s.statusWord.getLsbD j =
      ((placed (BitVec.ofBool s.busy) 0).getLsbD j || (placed (BitVec.ofBool s.fault) 1).getLsbD j ||
        (placed (BitVec.ofBool s.overrun) 2).getLsbD j || (placed (BitVec.ofBool s.pinInitDone) 3).getLsbD j ||
        (placed s.tapState.bits 4).getLsbD j || (placed s.shiftPhase.bits 6).getLsbD j ||
        (placed (BitVec.ofBool s.irValid) 7).getLsbD j || (placed s.irCache 8).getLsbD j ||
        (placed s.faultCode.bits 16).getLsbD j) := by
  simp only [State.statusWord, BitVec.getLsbD_or]

/-- The one-bit fields of STATUS (R31). -/
theorem statusWord_flags (s : State) :
    s.statusWord.getLsbD 0 = s.busy ∧ s.statusWord.getLsbD 1 = s.fault ∧ s.statusWord.getLsbD 2 = s.overrun ∧
      s.statusWord.getLsbD 3 = s.pinInitDone ∧ s.statusWord.getLsbD 6 = s.shiftPhase.bits.getLsbD 0 ∧
      s.statusWord.getLsbD 7 = s.irValid := by
  refine ⟨?_, ?_, ?_, ?_, ?_, ?_⟩ <;> rw [statusWord_getLsbD] <;>
    simp (disch := omega) [placed_getLsbD_from, placed_getLsbD_below, -BitVec.getLsbD_eq_getElem]

/-- The wider fields of STATUS and its reserved bits (R31). -/
theorem statusWord_fields (s : State) :
    s.statusWord.extractLsb' 4 2 = s.tapState.bits ∧ s.statusWord.extractLsb' 8 4 = s.irCache ∧
      s.statusWord.extractLsb' 12 4 = 0 ∧ s.statusWord.extractLsb' 16 8 = s.faultCode.bits ∧
      s.statusWord.extractLsb' 24 8 = 0 := by
  refine ⟨?_, ?_, ?_, ?_, ?_⟩ <;>
    (apply BitVec.eq_of_getLsbD_eq
     intro i hi
     rw [BitVec.getLsbD_extractLsb', statusWord_getLsbD]
     simp (disch := omega) [placed_getLsbD_from, placed_getLsbD_below, hi, -BitVec.getLsbD_eq_getElem,
       BitVec.getLsbD_of_ge])

theorem tapState_bits_eq (t : TapState) : t.bits = if t = .reset then 0b00 else if t = .idle then 0b01 else 0b10 := by
  cases t <;> rfl

theorem shiftPhase_bit_eq (ph : ShiftPhase) : ph.bits.getLsbD 0 = (ph == .exit1) := by
  cases ph <;> rfl

/-- Settles O12: every field of STATUS is read off the word's construction. -/
theorem statusFields : Obligations.StatusFields := by
  refine ⟨fun s => ?_, by decide⟩
  obtain ⟨busy, fault, overrun, pinInitDone, shiftPhase, irValid⟩ := statusWord_flags s
  obtain ⟨tapState, irCache, middle, faultCode, top⟩ := statusWord_fields s
  exact ⟨rfl, fun _ => rfl, busy, fault, overrun, pinInitDone, tapState.trans (tapState_bits_eq _),
    shiftPhase.trans (shiftPhase_bit_eq _), irValid, irCache, middle, faultCode, top⟩

/-! ## Encodings and reset values -/

/-- Settles O13: each number is that of its definition. -/
theorem stateEncodings : Obligations.StateEncodings := by
  unfold Obligations.StateEncodings
  decide

/-- Settles O17: each value is that of `State.reset`. -/
theorem resetValues : Obligations.ResetValues := by
  unfold Obligations.ResetValues
  decide

/-! ## One step on a host event -/

/-- A step takes the host's next event (R270). -/
theorem step_event {s : State} {e : HostEvent} {rest : List HostEvent} (hp : s.params.inRange = true)
    (hs : s.host = e :: rest) : step s = hostEvent e.act { s with host := rest } := by
  simp only [step, hp, if_true, nextEvent, hs]

/-- An access issues a command only as a whole-word write of CMD on an idle, unfaulted block; any other has its own
effect alone (R29, R30). -/
theorem hostEvent_access {s : State} {a : Access}
    (h : ∀ size address v, a = .write size address v → wholeAccess size (s.offsetOf address) = true →
      s.offsetOf address = 0 → s.busy = false → s.fault = true) :
    hostEvent (.access a) s = .next (hostAccess a s) := by
  cases a with
  | read size address => rfl
  | write size address v =>
    refine if_neg fun accepted => ?_
    simp only [Bool.and_eq_true, beq_iff_eq, Bool.not_eq_true'] at accepted
    obtain ⟨⟨⟨whole, cmd⟩, idle⟩, unfaulted⟩ := accepted
    simp [h size address v rfl whole cmd idle] at unfaulted

/-- A whole-word write of CMD on an idle, unfaulted block issues the command (R30). -/
theorem hostEvent_cmd {s : State} (hb : s.busy = false) (hf : s.fault = false) (w : Word) :
    hostEvent (.access (.write .word s.params.blockBase w)) s = issueCommand w s := by
  simp [hostEvent, wholeAccess, hb, hf]

/-- Settles O5: the CMD write is accepted, nothing lands, and the decoded command runs. -/
theorem stepRunsTheDecodedCommand : Obligations.StepRunsTheDecodedCommand := by
  intro s w i rest hp hs hb hf hq hd
  have slot := hostSlot_quiet (s := State.accepted { s with host := rest }) hq
  calc step s
      = hostEvent (.access (.write .word s.params.blockBase w)) { s with host := rest } := step_event hp hs
    _ = issueCommand w { s with host := rest } := hostEvent_cmd (s := { s with host := rest }) hb hf w
    _ = exec i (State.accepted { s with host := rest }) := by simp only [issueCommand, slot, hd]

/-! ## What an access does -/

/-- A CMD write while busy is lost and sets OVERRUN (R30). -/
theorem hostAccess_cmd_busy {s : State} (hb : s.busy = true) (w : Word) :
    hostAccess (.write .word s.params.blockBase w) s = { s with overrun := true } := by
  simp [hostAccess, wholeAccess, writeRegister, hb]

/-- A CMD write that issues no command changes nothing where the block is not busy (R244). -/
theorem hostAccess_cmd_idle {s : State} (hb : s.busy = false) (w : Word) :
    hostAccess (.write .word s.params.blockBase w) s = s := by
  simp [hostAccess, wholeAccess, writeRegister, hb]

theorem hostAccess_read {s : State} {offset : Word} (h : offset.extractLsb' 0 2 = 0) :
    hostAccess (.read .word (s.params.blockBase + offset)) s =
      { s with responses := readRegister offset s :: s.responses } := by
  simp [hostAccess, wholeAccess, h]

theorem hostAccess_write {s : State} {offset : Word} (h : offset.extractLsb' 0 2 = 0) (v : Word) :
    hostAccess (.write .word (s.params.blockBase + offset) v) s = writeRegister offset v s := by
  simp [hostAccess, wholeAccess, h]

/-- An access that is no whole 32-bit access is ignored (log entry 5). -/
theorem hostAccess_narrow {s : State} {size : AccessSize} {offset v : Word} {a : Access}
    (h : wholeAccess size offset = false)
    (ha : a = .read size (s.params.blockBase + offset) ∨ a = .write size (s.params.blockBase + offset) v) :
    hostAccess a s = s := by
  rcases ha with rfl | rfl <;> simp [hostAccess, h]

/-- An access that is due at a landing point takes effect there, and the events behind it are looked at next (R30). -/
theorem hostSlot_access {s : State} {a : Access} {rest : List HostEvent} (hs : s.host = ⟨.after 0, .access a⟩ :: rest) :
    hostSlot s = landEvents rest (hostAccess a s) := by
  simp only [hostSlot, hs, landEvents]

/-- Where nothing more is due, a landing point leaves the host with what is left of its schedule. -/
theorem landEvents_quiet {s : State} {rest : List HostEvent} (h : ({ s with host := rest }).quiet = true) :
    landEvents rest s = .ok () { s with host := rest } := by
  cases rest with
  | nil => rfl
  | cons e es =>
    obtain ⟨tm, act⟩ := e
    obtain rfl : tm = .whenIdle := by simpa [State.quiet] using h
    rfl

/-- Settles O8: busy, the write sets OVERRUN, between steps and at a landing point; faulted and idle, it does nothing. -/
theorem lostCommandWrites : Obligations.LostCommandWrites := by
  intro s w tm rest
  refine ⟨fun hp hs hb => ?_, fun hs hb hq => ?_, fun hp hs hb hf => ?_⟩
  · rw [step_event hp hs, hostEvent_access (by simp [hb])]
    exact congrArg _ (hostAccess_cmd_busy (s := { s with host := rest }) hb w)
  · rw [hostSlot_access hs, hostAccess_cmd_busy hb]
    exact landEvents_quiet (s := { s with overrun := true }) hq
  · rw [step_event hp hs, hostEvent_access (by simp [hf])]
    exact congrArg _ (hostAccess_cmd_idle (s := { s with host := rest }) hb w)

/-- Settles O9: the read issues no command, and the register's value is that of `readRegister` at the offset. -/
theorem registerReads : Obligations.RegisterReads := by
  intro s tm offset rest hp hs whole
  refine ⟨readRegister offset { s with host := rest }, ?_, ?_, ?_, ?_, ?_, ?_, ?_, fun high => ?_⟩
  · rw [step_event hp hs, hostEvent_access (by simp)]
    exact congrArg _ (hostAccess_read (s := { s with host := rest }) whole)
  iterate 6
    intro at_offset
    subst at_offset
    rfl
  · have beyond : ∀ o : Word, o.toNat < 0x18 → offset ≠ o := fun o ho eq => by subst eq; omega
    simp [readRegister, beyond]

/-- A whole-word write outside CMD is a write of the register at the offset (R29). -/
theorem step_write {s : State} {tm : Timing} {offset v : Word} {rest : List HostEvent} (hp : s.params.inRange = true)
    (hs : s.host = ⟨tm, .access (.write .word (s.params.blockBase + offset) v)⟩ :: rest)
    (whole : offset.extractLsb' 0 2 = 0) (notCmd : offset ≠ 0) :
    step s = .next (writeRegister offset v { s with host := rest }) := by
  have outside : State.offsetOf { s with host := rest } (s.params.blockBase + offset) ≠ 0 := by
    rwa [offsetOf_base_add { s with host := rest }]
  rw [step_event hp hs, hostEvent_access]
  · exact congrArg _ (hostAccess_write (s := { s with host := rest }) whole v)
  · rintro size address v ⟨⟩ - cmd
    exact absurd cmd outside

/-- Settles O10: the write issues no command, and `writeRegister` knows ARG0 and ARG1 alone. -/
theorem registerWrites : Obligations.RegisterWrites := by
  intro s tm offset v rest hp hs whole
  refine ⟨fun at_offset => ?_, fun at_offset => ?_, fun high => ?_⟩
  · subst at_offset
    exact step_write hp hs whole (by decide)
  · subst at_offset
    exact step_write hp hs whole (by decide)
  · have beyond : ∀ o : Word, o.toNat < 0x0C → offset ≠ o := fun o ho eq => by subst eq; omega
    rw [step_write hp hs whole (beyond 0 (by decide))]
    simp [writeRegister, beyond]

/-- Settles O11: the access issues no command and is ignored. -/
theorem narrowAccessesIgnored : Obligations.NarrowAccessesIgnored := by
  intro s tm size offset v rest a hp part ha hs
  have narrow : wholeAccess size offset = false := by
    rcases part with h | h
    · simp [wholeAccess, h]
    · simpa [wholeAccess] using fun _ => h
  rw [step_event hp hs, hostEvent_access]
  · exact congrArg _ (hostAccess_narrow (s := { s with host := rest }) narrow ha)
  · rintro size' address' v' rfl whole
    rcases ha with ha | ha
    · cases ha
    · cases ha
      rw [offsetOf_base_add { s with host := rest }, narrow] at whole
      cases whole

end Sys2Proof.Machine
end

section
/-! What procedures do under any schedule of the host: host events at a landing point write the host's own registers or
reset the block, and nothing else; pulses keep the protocol state; and what every procedure that completes leaves of the
protocol state (10_state.md R39). -/

namespace Sys2Proof.Machine

/-! ## Results of procedures -/

/-- The result of a procedure with its state changed. -/
def mapState {α : Type} (σ : State → State) : EStateM.Result Stop State α → EStateM.Result Stop State α
  | .ok a t => .ok a (σ t)
  | .error e t => .error e (σ t)

/-- The state a result carries. -/
def stateOf {α : Type} : EStateM.Result Stop State α → State
  | .ok _ t => t
  | .error _ t => t

@[simp] theorem mapState_ok {α : Type} (σ : State → State) (a : α) (t : State) :
    mapState σ (.ok a t) = .ok a (σ t) := rfl

@[simp] theorem mapState_error {α : Type} (σ : State → State) (e : Stop) (t : State) :
    mapState (α := α) σ (.error e t) = .error e (σ t) := rfl

@[simp] theorem stateOf_ok {α : Type} (a : α) (t : State) : stateOf (.ok a t) = t := rfl

@[simp] theorem stateOf_error {α : Type} (e : Stop) (t : State) : stateOf (α := α) (.error e t) = t := rfl

theorem stateOf_mapState {α : Type} (σ : State → State) (r : EStateM.Result Stop State α) :
    stateOf (mapState σ r) = σ (stateOf r) := by
  cases r <;> rfl

theorem finalState_eq (m : Proc Unit) (s : State) : finalState m s = stateOf (m s) := by
  unfold finalState
  cases m s <;> rfl

/-- A procedure that completes is its first part completing and then the rest. -/
theorem proc_bind_eq_ok {α β : Type} {m : Proc α} {f : α → Proc β} {s t : State} {b : β} (h : (m >>= f) s = .ok b t) :
    ∃ a u, m s = .ok a u ∧ f a u = .ok b t := by
  rw [proc_bind] at h
  cases hm : m s with
  | ok a u => exact ⟨a, u, rfl, by simpa [hm] using h⟩
  | error e u => simp [hm] at h

/-! ## Landing points -/

/-- The state with the host's own registers, ARG0, ARG1 and OVERRUN, and the data read, of another. -/
def State.withHostSide (s w : State) : State :=
  { s with arg0 := w.arg0, arg1 := w.arg1, overrun := w.overrun, responses := w.responses }

/-- An access that issues no command writes the host's side alone (R29). -/
theorem hostAccess_eq (a : Access) (s : State) : hostAccess a s = s.withHostSide (hostAccess a s) := by
  unfold hostAccess writeRegister
  repeat' split
  all_goals rfl

/-- What a landing point that lets the command go on leaves: everything but the host's side and its schedule. -/
theorem landEvents_ok {es : List HostEvent} {s t : State} (h : landEvents es s = .ok () t) :
    t = { s.withHostSide t with host := t.host } := by
  induction es generalizing s with
  | nil =>
    cases h
    rfl
  | cons e es ih =>
    obtain ⟨tm, act⟩ := e
    match tm, act with
    | .whenIdle, _ =>
      cases h
      rfl
    | .after (n + 1), _ =>
      cases h
      rfl
    | .after 0, .access a =>
      have rest : landEvents es (hostAccess a s) = .ok () t := h
      rw [ih rest, hostAccess_eq a s]
      rfl
    | .after 0, .rst => cases h

/-- The one way a landing point stops a command is block reset (R270). -/
theorem landEvents_error {es : List HostEvent} {s t : State} {e : Stop} (h : landEvents es s = .error e t) :
    e = .abandoned ∧ ∃ q, t = blockReset q := by
  induction es generalizing s with
  | nil => cases h
  | cons ev es ih =>
    obtain ⟨tm, act⟩ := ev
    match tm, act with
    | .whenIdle, _ => cases h
    | .after (n + 1), _ => cases h
    | .after 0, .access a => exact ih (s := hostAccess a s) h
    | .after 0, .rst =>
      cases h
      exact ⟨rfl, _, rfl⟩

theorem hostSlot_ok {s t : State} {x : Unit} (h : hostSlot s = .ok x t) : t = { s.withHostSide t with host := t.host } :=
  landEvents_ok h

/-! ## Pulses and TRST events -/

/-- A pulse without its landing point: the sample and the update of the pins, the environment and the trace (R121). -/
def clockPins (tms tdi : Bool) : Proc Bool := fun s => .ok s.nextTdo (s.afterPulse (tms, tdi))

theorem clockPins_run (tms tdi : Bool) (s : State) : clockPins tms tdi s = .ok s.nextTdo (s.afterPulse (tms, tdi)) := rfl

theorem pulse_eq (tms tdi : Bool) : pulse tms tdi = hostSlot >>= fun _ => clockPins tms tdi := by
  funext s
  unfold pulse
  rw [proc_bind, proc_bind]
  cases hostSlot s with
  | error e t => rfl
  | ok a t =>
    simp only [proc_bind_ok (setPin_run ..), proc_bind_ok (getTdo_run ..), proc_pure, clockPins_run]
    rw [nextTdo_drive, nextTdo_drive, nextTdo_drive, pulse_updates]

/-- The two TRST events of Reset, each after a landing point (R123). -/
def trstPulse : Proc Unit := do
  hostSlot
  setPin .trst false
  hostSlot
  setPin .trst true

theorem tapReset_eq : tapReset = (do
    trstPulse
    walk [true, true, true, true, true]
    modify fun s => (s.inTap .reset .shift).forgetIr) := by
  simp only [tapReset, trstPulse, bind_assoc]

/-! ## The protocol state -/

/-- What the block records of the target: TAP state, phase, and the IR cache with its valid bit (R39). -/
abbrev Protocol := TapState × ShiftPhase × Bool × BitVec 4

def State.protocol (s : State) : Protocol := (s.tapState, s.shiftPhase, s.irValid, s.irCache)

/-- The state with its protocol state changed. -/
def State.recording (g : Protocol → Protocol) (s : State) : State :=
  { s with
    tapState := (g s.protocol).1
    shiftPhase := (g s.protocol).2.1
    irValid := (g s.protocol).2.2.1
    irCache := (g s.protocol).2.2.2 }

/-- The phase a Shift's last write leaves, from the phase before it (R24, R130). -/
def phaseThen (n : Nat) (last : Bool) (ph : ShiftPhase) : ShiftPhase := if last && n != 0 then .exit1 else ph

theorem endShift_eq_recording (n : Nat) (last : Bool) :
    State.endShift n last = State.recording fun q => (q.1, phaseThen n last q.2.1, q.2.2) := by
  funext s
  unfold State.endShift phaseThen
  split <;> simp [State.recording, State.protocol]

/-- What Enter leaves of the protocol state: an open scan, and every IR entry invalidates the cache (R127). -/
theorem enter_eq (k : ScanKind) : enter k = (do
    commit
    walk (enterTms k)
    modify (State.recording fun q => (.shifting, .shift, irValidAfter k q.2.2.1, q.2.2.2))) := by
  cases k <;> rfl

/-! ## What a procedure that completes leaves of the protocol state -/

/-- A procedure run at parameters `p` that completes leaves `g` of the protocol state it found. -/
structure Leaves (p : Params) {α : Type} (m : Proc α) (g : Protocol → Protocol) : Prop where
  completing : ∀ s a t, s.params = p → m s = .ok a t → t.params = p ∧ t.protocol = g s.protocol

namespace Leaves

variable {p : Params} {α β : Type}

theorem pure (a : α) : Leaves p (pure a : Proc α) id := by
  constructor
  rintro s _ t hp ⟨⟩
  exact ⟨hp, rfl⟩

theorem bind {m : Proc α} {f : α → Proc β} {g g' : Protocol → Protocol} (hm : Leaves p m g)
    (hf : ∀ a, Leaves p (f a) g') : Leaves p (m >>= f) (g' ∘ g) := by
  constructor
  intro s b t hp h
  obtain ⟨a, u, hu, ht⟩ := proc_bind_eq_ok h
  obtain ⟨hup, hug⟩ := hm.completing s a u hp hu
  obtain ⟨htp, htg⟩ := (hf a).completing u b t hup ht
  exact ⟨htp, htg.trans (congrArg g' hug)⟩

theorem congr {m : Proc α} {g g' : Protocol → Protocol} (h : Leaves p m g) (e : ∀ q, g q = g' q) : Leaves p m g' :=
  funext e ▸ h

theorem look {f : Protocol → Params → Proc α} {g : Protocol → Protocol → Protocol} (hf : ∀ q, Leaves p (f q p) (g q)) :
    Leaves p (get >>= fun s => f s.protocol s.params) fun q => g q q := by
  constructor
  rintro s a t rfl h
  exact (hf s.protocol).completing s a t rfl h

theorem config {f : Params → Proc α} {g : Protocol → Protocol} (hf : Leaves p (f p) g) : Leaves p (config >>= f) g :=
  look (f := fun _ p => f p) fun _ => hf

theorem record (g : Protocol → Protocol) : Leaves p (modify (State.recording g)) g := by
  constructor
  rintro s a t hp ⟨⟩
  exact ⟨hp, rfl⟩

theorem verify (b : Bool) (c : FaultCode) (v : Word) : Leaves p (verify b c v) id := by
  constructor
  intro s a t hp h
  rw [verify_run] at h
  split at h
  · cases h
    exact ⟨hp, rfl⟩
  · cases h

theorem hostSlot : Leaves p hostSlot id := by
  constructor
  intro s a t hp h
  rw [hostSlot_ok h]
  exact ⟨hp, rfl⟩

theorem clockPins (tms tdi : Bool) : Leaves p (clockPins tms tdi) id := by
  constructor
  rintro s a t hp ⟨⟩
  exact ⟨hp, rfl⟩

theorem pulse (tms tdi : Bool) : Leaves p (pulse tms tdi) id :=
  pulse_eq tms tdi ▸ hostSlot.bind fun _ => clockPins tms tdi

theorem drive (pin : Pin) (level : Bool) : Leaves p (setPin pin level) id := by
  constructor
  rintro s a t hp ⟨⟩
  exact ⟨by simp [hp], by simp [State.protocol]⟩

theorem walk (ts : List Bool) : Leaves p (walk ts) id := by
  induction ts with
  | nil => exact pure ()
  | cons t ts ih => exact (pulse t false).bind fun _ => ih

theorem shiftBits (out : Word) (last : Bool) (k i : Nat) : Leaves p (shiftBits out last k i) id := by
  induction k generalizing i with
  | zero => exact pure []
  | succ k ih => exact (pulse _ _).bind fun _ => (ih (i + 1)).bind fun _ => pure _

theorem tapReset : Leaves p tapReset fun q => (.reset, .shift, false, q.2.2.2) := by
  rw [tapReset_eq]
  have trst : Leaves p trstPulse id :=
    hostSlot.bind fun _ => (drive ..).bind fun _ => hostSlot.bind fun _ => drive ..
  exact trst.bind fun _ => (walk _).bind fun _ => record fun q => (.reset, .shift, false, q.2.2.2)

theorem commit : Leaves p commit fun q => (.idle, .shift, q.2.2) :=
  look (f := fun q _ => do Machine.walk (commitTms q.1 q.2.1); modify (State.inTap .idle .shift))
    fun _ => (walk _).bind fun _ => record fun q => (.idle, .shift, q.2.2)

theorem runIdle (n : Nat) : Leaves p (runIdle n) fun q => (.idle, .shift, q.2.2) :=
  commit.bind fun _ => walk _

theorem enter (k : ScanKind) : Leaves p (enter k) fun q => (.shifting, .shift, irValidAfter k q.2.2.1, q.2.2.2) := by
  rw [enter_eq]
  exact commit.bind fun _ => (walk _).bind fun _ =>
    record fun q => (.shifting, .shift, irValidAfter k q.2.2.1, q.2.2.2)

theorem shift (n : Nat) (out : Word) (last : Bool) :
    Leaves p (shift n out last) fun q => (q.1, phaseThen n last q.2.1, q.2.2) := by
  have writes : Leaves p (modify (State.endShift n last)) fun q => (q.1, phaseThen n last q.2.1, q.2.2) :=
    endShift_eq_recording n last ▸ record _
  exact look (f := fun q _ => do
    Machine.verify (q.1 == .shifting) .shiftNotShifting (q.1.bits.setWidth 32)
    Machine.verify (q.2.1 == .shift) .shiftAfterLast 0
    let bs ← Machine.shiftBits out last n 0
    modify (State.endShift n last)
    return assemble bs) (g := fun _ q => (q.1, phaseThen n last q.2.1, q.2.2)) fun _ =>
    (verify ..).bind fun _ => (verify ..).bind fun _ => (shiftBits ..).bind fun _ => writes.bind fun _ => pure _

/-- A whole scan ends in Run-Test/Idle (R131, R132). -/
theorem scan (k : ScanKind) (n : Nat) (out : Word) :
    Leaves p (scan k n out) fun q => (.idle, .shift, irValidAfter k q.2.2.1, q.2.2.2) :=
  (enter k).bind fun _ => (shift n out true).bind fun _ => commit.bind fun _ => pure _

/-- The cache as SelectIR leaves it, a code it holds already untouched (R180). -/
theorem selectIr (code : BitVec 4) : Leaves p (selectIr code) fun q =>
    if q.2.2.1 && q.2.2.2 == code then q else (.idle, .shift, true, code) := by
  refine look (f := fun q p => if q.2.2.1 && q.2.2.2 == code then Pure.pure () else do
    let _ ← Machine.scan .ir (irChainBits p) (irChainWord p code)
    modify (State.cacheIr code))
    (g := fun q q' => if q.2.2.1 && q.2.2.2 == code then q' else (.idle, .shift, true, code)) fun q => ?_
  split
  · exact pure ()
  · exact (scan ..).bind fun _ => record fun q => (q.1, q.2.1, true, code)

theorem transact (code : BitVec 4) (op3 : BitVec 3) (arg : Word) :
    Leaves p (transact code op3 arg) fun _ => (.idle, .shift, true, code) := by
  refine (config ((selectIr code).bind fun _ => (enter .dr).bind fun _ => (shift ..).bind fun _ =>
    (verify ..).bind fun _ => (shift ..).bind fun _ => (shift ..).bind fun _ => commit.bind fun _ =>
    (runIdle 1).bind fun _ => pure _)).congr fun q => ?_
  have cached : (if q.2.2.1 && q.2.2.2 == code then q else (.idle, .shift, true, code)).2.2 = (true, code) := by
    split
    · exact Prod.ext (by simp_all) (by simp_all)
    · rfl
  simpa [irValidAfter] using cached

theorem checkedRead : Leaves p checkedRead fun _ => (.idle, .shift, true, p.dapIrDpacc) :=
  config ((transact ..).bind fun _ => (transact ..).bind fun _ => (transact ..).bind fun _ =>
    (verify ..).bind fun _ => pure _)

theorem memRead (addr : Word) : Leaves p (memRead addr) fun _ => (.idle, .shift, true, p.dapIrDpacc) :=
  config ((transact ..).bind fun _ => (transact ..).bind fun _ => checkedRead)

theorem memWrite (addr value : Word) : Leaves p (memWrite addr value) fun _ => (.idle, .shift, true, p.dapIrDpacc) :=
  config ((transact ..).bind fun _ => (transact ..).bind fun _ => checkedRead.bind fun _ => pure _)

theorem dapInit : Leaves p dapInit fun _ => (.idle, .shift, true, p.dapIrApacc) :=
  config ((scan ..).bind fun _ => (scan ..).bind fun _ => (verify ..).bind fun _ => (transact ..).bind fun _ =>
    checkedRead.bind fun _ => (transact ..).bind fun _ => (transact ..).bind fun _ => pure _)

theorem identifyTap : Leaves p identifyTap fun q => if p.checkTapIdcode then (.idle, .shift, q.2.2) else q := by
  refine config ?_
  cases p.checkTapIdcode with
  | true => exact (scan ..).bind fun _ => verify ..
  | false => exact pure ()

theorem connectIcepick : Leaves p connectIcepick fun q => (.idle, .shift, false, q.2.2.2) :=
  config ((scan ..).bind fun _ => (scan ..).bind fun _ => (scan ..).bind fun _ => verify ..)

theorem configureRouter (w : Word) : Leaves p (configureRouter w) fun q => (.idle, .shift, q.2.2) :=
  config ((scan ..).bind fun _ => (scan ..).bind fun _ => (verify ..).bind fun _ => runIdle _)

theorem configureRouters (ws : List Word) :
    Leaves p (configureRouters ws) fun q => if ws = [] then q else (.idle, .shift, q.2.2) := by
  induction ws with
  | nil => exact pure ()
  | cons w ws ih => exact ((configureRouter w).bind fun _ => ih).congr fun q => by simp

theorem icepickBringup : Leaves p icepickBringup fun q => (.idle, .shift, false, q.2.2.2) := by
  refine (config (identifyTap.bind fun _ => connectIcepick.bind fun _ => (scan ..).bind fun _ =>
    (configureRouters _).bind fun _ => (scan ..).bind fun _ => runIdle _)).congr fun q => ?_
  have identified : (if p.checkTapIdcode then (.idle, .shift, q.2.2) else q).2.2 = q.2.2 := by split <;> rfl
  simp [irValidAfter, identified]

end Leaves

/-! ## Commands -/

/-- The procedure of a command, run on the state right after acceptance (R120). -/
def bodyOf (s : State) : Instr → Proc (Option Word)
  | .reset => do tapReset; return none
  | .commit => do commit; return none
  | .runIdle => do runIdle s.a0.toNat; return none
  | .enterIr => do enter .ir; return none
  | .enterDr => do enter .dr; return none
  | .shift nbits last => do let r ← shift nbits.toNat s.a0 last; return some r
  | .scanIr nbits => do let r ← scan .ir nbits.toNat s.a0; return some r
  | .scanDr nbits => do let r ← scan .dr nbits.toNat s.a0; return some r
  | .selectIr irCode => do selectIr irCode; return none
  | .transact irCode op3 => do let r ← transact irCode op3 s.a0; return some r
  | .dpAbort => do let r ← transact s.params.dapIrAbort s.params.op3DpAbort s.params.dpAbortValue; return some r
  | .dpWriteCsw => do let r ← transact s.params.dapIrDpacc s.params.op3DpWriteCsw s.a0; return some r
  | .dpReadCsw => do let r ← transact s.params.dapIrDpacc s.params.op3DpReadCsw 0; return some r
  | .dpWriteSelect => do let r ← transact s.params.dapIrDpacc s.params.op3DpWriteSelect s.a0; return some r
  | .dpNop => do let r ← transact s.params.dapIrDpacc s.params.op3DpNop 0; return some r
  | .apWriteCsw => do let r ← transact s.params.dapIrApacc s.params.op3ApWriteCsw s.a0; return some r
  | .apReadCsw => do let r ← transact s.params.dapIrApacc s.params.op3ApReadCsw 0; return some r
  | .apWriteAddr => do let r ← transact s.params.dapIrApacc s.params.op3ApWriteAddr s.a0; return some r
  | .apReadAddr => do let r ← transact s.params.dapIrApacc s.params.op3ApReadAddr 0; return some r
  | .apWriteData => do let r ← transact s.params.dapIrApacc s.params.op3ApWriteData s.a0; return some r
  | .apReadData => do let r ← transact s.params.dapIrApacc s.params.op3ApReadData 0; return some r
  | .checkedRead => do let r ← checkedRead; return some r
  | .icepickBringup => do icepickBringup; return none
  | .dapInit => do dapInit; return none
  | .apRead => do let r ← memRead s.a0; return some r
  | .apWrite => do memWrite s.a0 s.a1; return none

/-- Every command is its operand check and its procedure, in the command cycle (R120). -/
theorem exec_eq (i : Instr) (s : State) : exec i s = runCommand (operandFault s.params i) (bodyOf s i) s := by
  cases i <;> rfl

/-- A command that writes no RESULT returns no value (R33). -/
theorem bodyOf_none {i : Instr} (h : writesResult i = false) {s u t : State} {r : Option Word}
    (run : bodyOf s i u = .ok r t) : r = none := by
  have unit : ∀ m : Proc Unit, (m >>= fun _ => pure none) u = .ok r t → r = none := by
    intro m hm
    obtain ⟨_, _, _, last⟩ := proc_bind_eq_ok hm
    cases last
    rfl
  cases i with
  | reset | commit | runIdle | enterIr | enterDr | selectIr | icepickBringup | dapInit | apWrite => exact unit _ run
  | _ => cases h

namespace Leaves

variable {p : Params}

/-- A command that returns nothing leaves what its procedure leaves. -/
theorem unit {m : Proc Unit} {g : Protocol → Protocol} (h : Leaves p m g) :
    Leaves p (do m; return (none : Option Word)) g :=
  h.bind fun _ => pure none

/-- A command that returns a value leaves what its procedure leaves. -/
theorem value {m : Proc Word} {g : Protocol → Protocol} (h : Leaves p m g) :
    Leaves p (do let r ← m; return some r) g :=
  h.bind fun _ => pure _

/-- What each command's procedure leaves is the row of R39's table. -/
theorem bodyOf (s : State) (i : Instr) : ∃ g, Leaves s.params (bodyOf s i) g ∧ g s.protocol = protocolAfter s i := by
  cases i with
  | reset => exact ⟨_, tapReset.unit, rfl⟩
  | commit => exact ⟨_, commit.unit, rfl⟩
  | runIdle => exact ⟨_, (runIdle _).unit, rfl⟩
  | enterIr => exact ⟨_, (enter .ir).unit, rfl⟩
  | enterDr => exact ⟨_, (enter .dr).unit, rfl⟩
  | shift nbits last =>
    refine ⟨_, (shift ..).value, ?_⟩
    have bits : (nbits.toNat != 0) = decide (1 ≤ nbits.toNat) := by
      rw [Bool.eq_iff_iff]
      simp [Nat.one_le_iff_ne_zero]
    simp only [phaseThen, bits]
    rfl
  | scanIr nbits => exact ⟨_, (scan ..).value, rfl⟩
  | scanDr nbits => exact ⟨_, (scan ..).value, rfl⟩
  | selectIr irCode => exact ⟨_, (selectIr irCode).unit, rfl⟩
  | checkedRead => exact ⟨_, checkedRead.value, rfl⟩
  | icepickBringup => exact ⟨_, icepickBringup.unit, rfl⟩
  | dapInit => exact ⟨_, dapInit.unit, rfl⟩
  | apRead => exact ⟨_, (memRead _).value, rfl⟩
  | apWrite => exact ⟨_, (memWrite ..).unit, rfl⟩
  | _ => exact ⟨_, (transact ..).value, rfl⟩

end Leaves

end Sys2Proof.Machine
end

section
/-! What every command is made of. `Sequenced` says it in the procedures of 40_tap_sequencer.md, `Clocked` in pulses,
TRST events and writes of the protocol state; a property that each of these parts has and that passes through sequencing
is then proved once for all commands. -/

namespace Sys2Proof.Machine

/-! ## Made of pulses -/

/-- The protocol states a block can be in: EXIT1 only in a scan (R24), a valid cache only with an access code (R26). -/
def Legal (p : Params) (q : Protocol) : Prop :=
  (q.1 ≠ .shifting → q.2.1 = .shift) ∧ (q.2.2.1 = true → p.isAccessIr q.2.2.2 = true)

/-- Procedures that, run at parameters `p`, do nothing but read the protocol state, clock the target, write a legal
protocol state and raise faults. -/
inductive Clocked (p : Params) : {α : Type} → Proc α → Prop
  | pure {α : Type} (a : α) : Clocked p (pure a : Proc α)
  | bind {α β : Type} {m : Proc α} {f : α → Proc β} : Clocked p m → (∀ a, Clocked p (f a)) → Clocked p (m >>= f)
  | look {α : Type} {f : Protocol → Params → Proc α} :
    (∀ q, Clocked p (f q p)) → Clocked p (get >>= fun s => f s.protocol s.params)
  | pulse (tms tdi : Bool) : Clocked p (pulse tms tdi)
  | trst : Clocked p trstPulse
  | record {g : Protocol → Protocol} : (∀ q, Legal p q → Legal p (g q)) → Clocked p (modify (State.recording g))
  | raise {code : FaultCode} (value : Word) : code ≠ .none → Clocked p (raise code value)

/-- Shift with its last write named for the open scan it has checked: the two agree, since no pulse writes `tapState`. -/
theorem shift_eq (n : Nat) (out : Word) (last : Bool) : shift n out last = (do
    let s ← get
    verify (s.tapState == .shifting) .shiftNotShifting (s.tapState.bits.setWidth 32)
    verify (s.shiftPhase == .shift) .shiftAfterLast 0
    let bs ← shiftBits out last n 0
    modify (State.recording fun q => (.shifting, phaseThen n last q.2.1, q.2.2))
    return assemble bs) := by
  funext s
  unfold shift
  rw [proc_bind_ok (proc_get s), proc_bind_ok (proc_get s)]
  cases inScan : (s.tapState == .shifting) with
  | false => rw [proc_bind_error (verify_fail rfl ..), proc_bind_error (verify_fail rfl ..)]
  | true =>
    have writes : ∀ bs t, shiftBits out last n 0 s = .ok bs t →
        t.endShift n last = t.recording fun q => (.shifting, phaseThen n last q.2.1, q.2.2) := by
      intro bs t run
      obtain ⟨-, kept⟩ := (Leaves.shiftBits out last n 0).completing s bs t rfl run
      have still : t.tapState = .shifting := (congrArg Prod.fst kept).trans (beq_iff_eq.mp inScan)
      rw [endShift_eq_recording, ← still]
      rfl
    rw [proc_bind_ok (verify_pass rfl ..), proc_bind_ok (verify_pass rfl ..)]
    cases fresh : (s.shiftPhase == .shift) with
    | false => rw [proc_bind_error (verify_fail rfl ..), proc_bind_error (verify_fail rfl ..)]
    | true =>
      rw [proc_bind_ok (verify_pass rfl ..), proc_bind_ok (verify_pass rfl ..)]
      cases run : shiftBits out last n 0 s with
      | error e t => rw [proc_bind_error run, proc_bind_error run]
      | ok bs t =>
        rw [proc_bind_ok run, proc_bind_ok run, proc_bind_ok (proc_modify ..), proc_bind_ok (proc_modify ..),
          writes bs t run]

namespace Clocked

variable {p : Params}

theorem verify (b : Bool) {c : FaultCode} (hc : c ≠ .none) (v : Word) : Clocked p (verify b c v) := by
  cases b with
  | true => exact pure ()
  | false => exact raise v hc

theorem walk (ts : List Bool) : Clocked p (walk ts) := by
  induction ts with
  | nil => exact pure ()
  | cons t ts ih => exact (pulse t false).bind fun _ => ih

theorem shiftBits (out : Word) (last : Bool) (k i : Nat) : Clocked p (shiftBits out last k i) := by
  induction k generalizing i with
  | zero => exact pure []
  | succ k ih => exact (pulse _ _).bind fun _ => (ih (i + 1)).bind fun _ => pure _

theorem tapReset : Clocked p tapReset := by
  rw [tapReset_eq]
  exact trst.bind fun _ => (walk _).bind fun _ =>
    record (g := fun q => (.reset, .shift, false, q.2.2.2)) fun q _ => ⟨fun _ => rfl, nofun⟩

theorem commit : Clocked p commit :=
  look (f := fun q _ => do Machine.walk (commitTms q.1 q.2.1); modify (State.inTap .idle .shift))
    fun _ => (walk _).bind fun _ => record (g := fun q => (.idle, .shift, q.2.2)) fun _ h => ⟨fun _ => rfl, h.2⟩

theorem runIdle (n : Nat) : Clocked p (runIdle n) := commit.bind fun _ => walk _

theorem enter (k : ScanKind) : Clocked p (enter k) := by
  rw [enter_eq]
  refine commit.bind fun _ => (walk _).bind fun _ => record fun q h => ⟨fun _ => rfl, ?_⟩
  cases k with
  | ir => exact nofun
  | dr => exact h.2

theorem shift (n : Nat) (out : Word) (last : Bool) : Clocked p (shift n out last) := by
  rw [shift_eq]
  exact look (f := fun q _ => do
    Machine.verify (q.1 == .shifting) .shiftNotShifting (q.1.bits.setWidth 32)
    Machine.verify (q.2.1 == .shift) .shiftAfterLast 0
    let bs ← Machine.shiftBits out last n 0
    modify (State.recording fun q => (.shifting, phaseThen n last q.2.1, q.2.2))
    return assemble bs) fun _ =>
    (verify _ (by nofun) _).bind fun _ => (verify _ (by nofun) _).bind fun _ => (shiftBits ..).bind fun _ =>
    (record (g := fun q => (.shifting, phaseThen n last q.2.1, q.2.2))
      fun _ h => ⟨fun outside => absurd rfl outside, h.2⟩).bind fun _ => pure _

theorem cacheIr {code : BitVec 4} (h : p.isAccessIr code = true) : Clocked p (modify (State.cacheIr code)) :=
  record (g := fun q => (q.1, q.2.1, true, code)) fun _ hq => ⟨hq.1, fun _ => h⟩

end Clocked

/-! ## Made of TAP Sequencer procedures -/

/-- Procedures that, run at parameters `p`, reach the target through the procedures of 40_tap_sequencer.md alone. -/
inductive Sequenced (p : Params) : {α : Type} → Proc α → Prop
  | pure {α : Type} (a : α) : Sequenced p (pure a : Proc α)
  | bind {α β : Type} {m : Proc α} {f : α → Proc β} : Sequenced p m → (∀ a, Sequenced p (f a)) → Sequenced p (m >>= f)
  | look {α : Type} {f : Protocol → Params → Proc α} :
    (∀ q, Sequenced p (f q p)) → Sequenced p (get >>= fun s => f s.protocol s.params)
  | tapReset : Sequenced p tapReset
  | commit : Sequenced p commit
  | runIdle (n : Nat) : Sequenced p (runIdle n)
  | enter (k : ScanKind) : Sequenced p (enter k)
  | shift (n : Nat) (out : Word) (last : Bool) : Sequenced p (shift n out last)
  | cacheIr {code : BitVec 4} : p.isAccessIr code = true → Sequenced p (modify (State.cacheIr code))
  | raise {code : FaultCode} (value : Word) : code ≠ .none → Sequenced p (raise code value)

theorem dapIrAbort_isAccessIr (p : Params) : p.isAccessIr p.dapIrAbort = true := by simp [Params.isAccessIr]

theorem dapIrDpacc_isAccessIr (p : Params) : p.isAccessIr p.dapIrDpacc = true := by simp [Params.isAccessIr]

theorem dapIrApacc_isAccessIr (p : Params) : p.isAccessIr p.dapIrApacc = true := by simp [Params.isAccessIr]

namespace Sequenced

variable {p : Params}

/-- Every procedure made of TAP Sequencer procedures is made of pulses. -/
theorem clocked {α : Type} {m : Proc α} (h : Sequenced p m) : Clocked p m := by
  induction h with
  | pure a => exact .pure a
  | bind _ _ hm hf => exact hm.bind hf
  | look _ hf => exact .look hf
  | tapReset => exact .tapReset
  | commit => exact .commit
  | runIdle n => exact .runIdle n
  | enter k => exact .enter k
  | shift n out last => exact .shift n out last
  | cacheIr h => exact .cacheIr h
  | raise v hc => exact .raise v hc

theorem config {α : Type} {f : Params → Proc α} (hf : Sequenced p (f p)) : Sequenced p (config >>= f) :=
  look (f := fun _ p => f p) fun _ => hf

theorem verify (b : Bool) {c : FaultCode} (hc : c ≠ .none) (v : Word) : Sequenced p (verify b c v) := by
  cases b with
  | true => exact pure ()
  | false => exact raise v hc

theorem scan (k : ScanKind) (n : Nat) (out : Word) : Sequenced p (scan k n out) :=
  (enter k).bind fun _ => (shift n out true).bind fun _ => commit.bind fun _ => pure _

theorem selectIr {code : BitVec 4} (h : p.isAccessIr code = true) : Sequenced p (selectIr code) := by
  refine look (f := fun q p => if q.2.2.1 && q.2.2.2 == code then Pure.pure () else do
    let _ ← Machine.scan .ir (irChainBits p) (irChainWord p code)
    modify (State.cacheIr code)) fun q => ?_
  split
  · exact pure ()
  · exact (scan ..).bind fun _ => cacheIr h

theorem transact {code : BitVec 4} (h : p.isAccessIr code = true) (op3 : BitVec 3) (arg : Word) :
    Sequenced p (transact code op3 arg) :=
  config ((selectIr h).bind fun _ => (enter .dr).bind fun _ => (shift ..).bind fun _ =>
    (verify _ (by nofun) _).bind fun _ => (shift ..).bind fun _ => (shift ..).bind fun _ => commit.bind fun _ =>
    (runIdle 1).bind fun _ => pure _)

theorem checkedRead : Sequenced p checkedRead :=
  have dpacc := dapIrDpacc_isAccessIr p
  config ((transact dpacc ..).bind fun _ => (transact dpacc ..).bind fun _ => (transact dpacc ..).bind fun _ =>
    (verify _ (by nofun) _).bind fun _ => pure _)

theorem memRead (addr : Word) : Sequenced p (memRead addr) :=
  have apacc := dapIrApacc_isAccessIr p
  config ((transact apacc ..).bind fun _ => (transact apacc ..).bind fun _ => checkedRead)

theorem memWrite (addr value : Word) : Sequenced p (memWrite addr value) :=
  have apacc := dapIrApacc_isAccessIr p
  config ((transact apacc ..).bind fun _ => (transact apacc ..).bind fun _ => checkedRead.bind fun _ => pure _)

theorem dapInit : Sequenced p dapInit :=
  have dpacc := dapIrDpacc_isAccessIr p
  config ((scan ..).bind fun _ => (scan ..).bind fun _ => (verify _ (by nofun) _).bind fun _ =>
    (transact dpacc ..).bind fun _ => checkedRead.bind fun _ => (transact dpacc ..).bind fun _ =>
    (transact (dapIrApacc_isAccessIr p) ..).bind fun _ => pure _)

theorem identifyTap : Sequenced p identifyTap := by
  refine config ?_
  cases p.checkTapIdcode with
  | true => exact (scan ..).bind fun _ => verify _ (by nofun) _
  | false => exact pure ()

theorem connectIcepick : Sequenced p connectIcepick :=
  config ((scan ..).bind fun _ => (scan ..).bind fun _ => (scan ..).bind fun _ => verify _ (by nofun) _)

theorem configureRouters (ws : List Word) : Sequenced p (configureRouters ws) := by
  induction ws with
  | nil => exact pure ()
  | cons w ws ih =>
    have router : Sequenced p (configureRouter w) :=
      config ((scan ..).bind fun _ => (scan ..).bind fun _ => (verify _ (by nofun) _).bind fun _ => runIdle _)
    exact router.bind fun _ => ih

theorem icepickBringup : Sequenced p icepickBringup :=
  config (identifyTap.bind fun _ => connectIcepick.bind fun _ => (scan ..).bind fun _ =>
    (configureRouters _).bind fun _ => (scan ..).bind fun _ => runIdle _)

theorem unit {m : Proc Unit} (h : Sequenced p m) : Sequenced p (do m; return (none : Option Word)) :=
  h.bind fun _ => pure none

theorem value {m : Proc Word} (h : Sequenced p m) : Sequenced p (do let r ← m; return some r) :=
  h.bind fun _ => pure _

/-- The procedure of every command whose operands pass their check is made of TAP Sequencer procedures. -/
theorem bodyOf {s : State} {i : Instr} (h : operandFault s.params i = none) :
    Sequenced s.params (bodyOf s i) := by
  have operands : i.wellFormed s.params = true := (operandFault_eq_none_iff _ i).mp h
  have abort := dapIrAbort_isAccessIr s.params
  have dpacc := dapIrDpacc_isAccessIr s.params
  have apacc := dapIrApacc_isAccessIr s.params
  cases i with
  | reset => exact tapReset.unit
  | commit => exact commit.unit
  | runIdle => exact (runIdle _).unit
  | enterIr => exact (enter .ir).unit
  | enterDr => exact (enter .dr).unit
  | shift nbits last => exact (shift ..).value
  | scanIr nbits | scanDr nbits => exact (scan ..).value
  | selectIr irCode => exact (selectIr operands).unit
  | transact irCode op3 => exact (transact operands ..).value
  | dpAbort => exact (transact abort ..).value
  | dpWriteCsw | dpReadCsw | dpWriteSelect | dpNop => exact (transact dpacc ..).value
  | apWriteCsw | apReadCsw | apWriteAddr | apReadAddr | apWriteData | apReadData => exact (transact apacc ..).value
  | checkedRead => exact checkedRead.value
  | icepickBringup => exact icepickBringup.unit
  | dapInit => exact dapInit.unit
  | apRead => exact (memRead _).value
  | apWrite => exact (memWrite ..).unit

end Sequenced

/-! ## The frame of a quiet command -/

/-- The state with what clocking the target writes blanked: the protocol state, the pins and the initialise flag, and the
environment and record of pin events. -/
def State.kept (s : State) : State :=
  { s with
    tapState := .reset, shiftPhase := .shift, irValid := false, irCache := 0, pinInitDone := false
    pinTrst := false, pinTck := false, pinTms := false, pinTdi := false, tdo := [], draws := 0, trace := [] }

/-- A quiet procedure that runs to its end writes nothing outside `kept`; one that stops has taken a fault after that. -/
structure Framed (p : Params) {α : Type} (m : Proc α) : Prop where
  ok : ∀ s a t, s.quiet = true → s.params = p → m s = .ok a t → t.kept = s.kept
  error : ∀ s e t, s.quiet = true → s.params = p → m s = .error e t →
    e = .faulted ∧ ∃ c v u, c ≠ .none ∧ u.kept = s.kept ∧ t = takeFault c v u

theorem quiet_of_kept {s t : State} (h : t.kept = s.kept) : t.quiet = s.quiet :=
  quiet_of_host_eq (congrArg State.host h :)

theorem params_of_kept {s t : State} (h : t.kept = s.kept) : t.params = s.params :=
  (congrArg State.params h :)

theorem kept_drive (s : State) (pin : Pin) (level : Bool) : (s.drive pin level).kept = s.kept := by
  cases pin <;> rfl

theorem kept_initPins (s : State) : s.initPins.kept = s.kept := by
  unfold State.initPins
  split <;> rfl

/-- A procedure that always runs to its end, and writes nothing outside `kept`, is framed. -/
theorem Framed.of_run {p : Params} {α : Type} {m : Proc α}
    (h : ∀ s, s.quiet = true → s.params = p → ∃ a t, m s = .ok a t ∧ t.kept = s.kept) : Framed p m where
  ok s a t hq hp run := by
    obtain ⟨a', t', run', hk⟩ := h s hq hp
    cases run.symm.trans run'
    exact hk
  error s e t hq hp run := by
    obtain ⟨a', t', run', -⟩ := h s hq hp
    cases run.symm.trans run'

theorem Framed.bind {p : Params} {α β : Type} {m : Proc α} {f : α → Proc β} (hm : Framed p m)
    (hf : ∀ a, Framed p (f a)) : Framed p (m >>= f) where
  ok s b t hq hp run := by
    obtain ⟨a, u, hu, ht⟩ := proc_bind_eq_ok run
    have hk := hm.ok s a u hq hp hu
    exact ((hf a).ok u b t (quiet_of_kept hk ▸ hq) (params_of_kept hk ▸ hp) ht).trans hk
  error s e t hq hp run := by
    cases hu : m s with
    | error e' u =>
      rw [proc_bind_error hu] at run
      cases run
      exact hm.error s e t hq hp hu
    | ok a u =>
      rw [proc_bind_ok hu] at run
      have hk := hm.ok s a u hq hp hu
      obtain ⟨he, c, v, w, hc, hw, ht⟩ := (hf a).error u e t (quiet_of_kept hk ▸ hq) (params_of_kept hk ▸ hp) run
      exact ⟨he, c, v, w, hc, hw.trans hk, ht⟩

theorem Clocked.framed {p : Params} {α : Type} {m : Proc α} (h : Clocked p m) : Framed p m := by
  induction h with
  | pure a => exact .of_run fun s _ _ => ⟨a, s, rfl, rfl⟩
  | bind _ _ hm hf => exact hm.bind hf
  | look _ hf =>
    constructor
    · rintro s a t hq rfl run
      exact (hf s.protocol).ok s a t hq rfl run
    · rintro s e t hq rfl run
      exact (hf s.protocol).error s e t hq rfl run
  | pulse tms tdi => exact .of_run fun s hq _ => ⟨_, _, pulse_quiet hq tms tdi, rfl⟩
  | trst =>
    refine .of_run fun s hq _ => ⟨(), (s.drive .trst false).drive .trst true, ?_, by simp only [kept_drive]⟩
    unfold trstPulse
    rw [proc_bind_ok (hostSlot_quiet hq), proc_bind_ok (setPin_run ..), proc_bind_ok (hostSlot_quiet (by simp [hq]))]
    rfl
  | record _ => exact .of_run fun s _ _ => ⟨(), _, rfl, rfl⟩
  | raise v hc =>
    constructor
    · rintro s a t - - ⟨⟩
    · rintro s e t - - ⟨⟩
      exact ⟨rfl, _, v, s, hc, rfl, rfl⟩

/-- What a command can do where no host event is due inside it: fail its operand check, complete, or take a fault. -/
inductive CommandOutcome (i : Instr) (s t : State) : Prop
  | rejected (c : FaultCode) (v : Word) (check : operandFault s.params i = some (c, v)) (after : t = takeFault c v s)
  | completed (r : Option Word) (u : State) (check : operandFault s.params i = none)
    (run : bodyOf s i s.initPins = .ok r u) (kept : u.kept = s.kept) (after : t = u.complete r)
  | faulted (c : FaultCode) (v : Word) (u : State) (check : operandFault s.params i = none)
    (run : bodyOf s i s.initPins = .error .faulted t) (kept : u.kept = s.kept) (after : t = takeFault c v u)

theorem exec_rejected {i : Instr} {s : State} {c : FaultCode} {v : Word} (h : operandFault s.params i = some (c, v)) :
    exec i s = .next (takeFault c v s) := by
  rw [exec_eq, h, runCommand_rejected]

/-- A command whose operands pass their check: the initialise request, its procedure, a last landing point, completion
(R120). -/
theorem exec_accepted {i : Instr} {s : State} (h : operandFault s.params i = none) :
    exec i s = .next
      (stateOf ((bodyOf s i >>= fun r => hostSlot >>= fun _ => modify (State.complete r)) s.initPins)) := by
  rw [exec_eq, h, runCommand, finalState_eq, commandCycle, proc_bind_ok (proc_modify ..)]

theorem exec_outcome {i : Instr} {s t : State} (hq : s.quiet = true) (h : exec i s = .next t) :
    CommandOutcome i s t := by
  cases check : operandFault s.params i with
  | some bad =>
    obtain ⟨c, v⟩ := bad
    rw [exec_rejected check] at h
    cases h
    exact .rejected c v check rfl
  | none =>
    have framed := (Sequenced.bodyOf check).clocked.framed
    have init := kept_initPins s
    have quiet : s.initPins.quiet = true := by simp [hq]
    rw [exec_eq, check] at h
    cases run : bodyOf s i s.initPins with
    | ok r u =>
      have kept := (framed.ok _ r u quiet (params_of_kept init) run).trans init
      rw [runCommand_ok run (quiet_of_kept kept ▸ hq)] at h
      cases h
      exact .completed r u check run kept rfl
    | error e u =>
      obtain ⟨rfl, c, v, w, -, hw, rfl⟩ := framed.error _ e u quiet (params_of_kept init) run
      rw [runCommand_stopped run] at h
      cases h
      exact .faulted c v w check run (hw.trans init) rfl

/-! ## RESULT and the protocol state -/

/-- Settles O50: a fault writes no RESULT, and a completing command writes the value it returns, here none. -/
theorem resultWriters : Obligations.ResultWriters := by
  intro i s t hq hf h cond
  cases exec_outcome hq h with
  | rejected c v _ after => rw [after, takeFault_result]
  | faulted c v u _ _ kept after =>
    rw [after, takeFault_result]
    exact (congrArg State.result kept :)
  | completed r u _ run kept after =>
    have unfaulted : t.fault = false := by
      rw [after]
      exact (congrArg State.fault kept :).trans hf
    obtain rfl : r = none := bodyOf_none (by simpa [unfaulted] using cond) run
    rw [after]
    exact (congrArg State.result kept :)

theorem initPins_protocol (s : State) : s.initPins.protocol = s.protocol := by simp [State.protocol]

/-- Settles O51: only completion leaves the block unfaulted, and there the command's row applies. -/
theorem protocolStateWriters : Obligations.ProtocolStateWriters := by
  intro i s t hq hf h unfaulted
  cases exec_outcome hq h with
  | rejected c v _ after => simp [after] at unfaulted
  | faulted c v u _ _ _ after => simp [after] at unfaulted
  | completed r u _ run _ after =>
    obtain ⟨g, leaves, row⟩ := Leaves.bodyOf s i
    obtain ⟨-, protocol⟩ := leaves.completing _ r u (params_of_kept (kept_initPins s)) run
    rw [← row, ← initPins_protocol s, ← protocol, after]
    rfl

end Sys2Proof.Machine
end

section
/-! The invariant of the block's state (10_state.md R24, R26, R36; 40_tap_sequencer.md R120; 60_exceptions.md R241):
block reset gives it, host accesses and faults keep it, and so does every part a command is made of. -/

namespace Sys2Proof.Machine

/-! ## The record of pin events -/

/-- Pin events that are no reset and no initialise request, made after the request, keep it the first and only one. -/
theorem initOnce_append {made es : List PinEvent} (h : initOnce true es)
    (plain : ∀ e ∈ made, e ≠ .latchReset ∧ e ≠ .pinInit) : initOnce true (made ++ es) := by
  obtain ⟨later, first, once⟩ := h
  refine ⟨made ++ later, ?_, ?_⟩
  · rw [List.append_assoc, ← first]
    exact List.takeWhile_append_of_pos fun e he => by simpa using (plain e he).1
  · rw [List.mem_append]
    rintro (hm | hl)
    · exact (plain _ hm).2 rfl
    · exact once hl

theorem lastLevel_pulseEvents (p : Pin) (tms tdi level : Bool) (es : List PinEvent) :
    lastLevel p (pulseEvents tms tdi level ++ es) =
      match p with
      | .trst => lastLevel .trst es
      | .tck => false
      | .tms => tms
      | .tdi => tdi := by
  cases p <;> rfl

/-! ## What gives and keeps the invariant -/

/-- Block reset meets the invariant, whatever state it finds (R270). -/
theorem blockReset_invariant (s : State) : BlockInvariant (blockReset s) := by
  constructor <;> simp [State.reset, lastLevel, Pin.resetLevel, initOnce, sinceReset]

/-- Settles O56: no pin event, no fault and the latches at their reset levels. -/
theorem invariantAtReset : Obligations.InvariantAtReset := by
  constructor <;> simp [State.reset, lastLevel, Pin.resetLevel, initOnce, sinceReset]

theorem BlockInvariant.faulted {s : State} (h : BlockInvariant { s with busy := false }) {c : FaultCode} (hc : c ≠ .none)
    (v : Word) : BlockInvariant (takeFault c v s) :=
  { h with
    codeNone := ⟨nofun, fun none => absurd none hc⟩
    valueZero := nofun }

/-- What holds inside a command: the invariant but for `busy`, and the initialise request has been made. -/
structure MidCommand (p : Params) (s : State) : Prop where
  inv : BlockInvariant { s with busy := false }
  done : s.pinInitDone = true
  atParams : s.params = p

/-- A procedure that keeps what holds inside a command, and meets the invariant where it stops. -/
structure Keeps (p : Params) {α : Type} (m : Proc α) : Prop where
  ok : ∀ s a t, MidCommand p s → m s = .ok a t → MidCommand p t
  error : ∀ s e t, MidCommand p s → m s = .error e t → BlockInvariant t

theorem Keeps.of_run {p : Params} {α : Type} {m : Proc α}
    (h : ∀ s, MidCommand p s → ∃ a t, m s = .ok a t ∧ MidCommand p t) : Keeps p m where
  ok s a t hs run := by
    obtain ⟨a', t', run', ht⟩ := h s hs
    cases run.symm.trans run'
    exact ht
  error s e t hs run := by
    obtain ⟨a', t', run', -⟩ := h s hs
    cases run.symm.trans run'

theorem Keeps.bind {p : Params} {α β : Type} {m : Proc α} {f : α → Proc β} (hm : Keeps p m) (hf : ∀ a, Keeps p (f a)) :
    Keeps p (m >>= f) where
  ok s b t hs run := by
    obtain ⟨a, u, hu, ht⟩ := proc_bind_eq_ok run
    exact (hf a).ok u b t (hm.ok s a u hs hu) ht
  error s e t hs run := by
    cases hu : m s with
    | error e' u =>
      rw [proc_bind_error hu] at run
      cases run
      exact hm.error s e t hs hu
    | ok a u =>
      rw [proc_bind_ok hu] at run
      exact (hf a).error u e t (hm.ok s a u hs hu) run

theorem Keeps.hostSlot {p : Params} : Keeps p hostSlot where
  ok s a t hs run := by
    rw [hostSlot_ok run]
    exact ⟨{ hs.inv with }, hs.done, hs.atParams⟩
  error s e t _ run := by
    obtain ⟨-, q, rfl⟩ := landEvents_error run
    exact blockReset_invariant q

/-- A pulse leaves the latches at the levels it wrote and adds no initialise request (R121). -/
theorem MidCommand.afterPulse {p : Params} {s : State} (h : MidCommand p s) (q : Pulse) :
    MidCommand p (s.afterPulse q) where
  inv :=
    { h.inv with
      clockLow := rfl
      trstLatch := h.inv.trstLatch.trans (lastLevel_pulseEvents .trst q.1 q.2 s.nextTdo s.trace).symm
      tckLatch := (lastLevel_pulseEvents .tck q.1 q.2 s.nextTdo s.trace).symm
      tmsLatch := (lastLevel_pulseEvents .tms q.1 q.2 s.nextTdo s.trace).symm
      tdiLatch := (lastLevel_pulseEvents .tdi q.1 q.2 s.nextTdo s.trace).symm
      pinsInitialised := by
        have init : initOnce s.pinInitDone s.trace := h.inv.pinsInitialised
        show initOnce s.pinInitDone (pulseEvents q.1 q.2 s.nextTdo ++ s.trace)
        rw [h.done] at init ⊢
        exact initOnce_append init (by simp [pulseEvents]) }
  done := h.done
  atParams := h.atParams

/-- TRST driven low and released again leaves its latch at 1, and adds no initialise request (R123). -/
theorem MidCommand.trstPulse {p : Params} {s : State} (h : MidCommand p s) (w : State) (es : List HostEvent) :
    MidCommand p (State.drive .trst true { (s.drive .trst false).withHostSide w with host := es }) where
  inv :=
    { h.inv with
      trstReleased := rfl
      trstLatch := rfl
      pinsInitialised := by
        have init : initOnce s.pinInitDone s.trace := h.inv.pinsInitialised
        show initOnce s.pinInitDone ([.drive .trst true, .drive .trst false] ++ s.trace)
        rw [h.done] at init ⊢
        exact initOnce_append init (by simp) }
  done := h.done
  atParams := h.atParams

theorem Keeps.trstPulse {p : Params} : Keeps p trstPulse := by
  refine Keeps.hostSlot.bind fun _ => ⟨fun s a t hs run => ?_, fun s e t hs run => ?_⟩
  · obtain ⟨_, u, ⟨⟩, run⟩ := proc_bind_eq_ok run
    obtain ⟨_, u, slot, ⟨⟩⟩ := proc_bind_eq_ok run
    rw [hostSlot_ok slot]
    exact hs.trstPulse u u.host
  · rw [proc_bind_ok (setPin_run ..), proc_bind] at run
    cases slot : Machine.hostSlot (s.drive .trst false) with
    | ok a u => simp [slot, setPin_run] at run
    | error e' u =>
      simp only [slot] at run
      cases run
      obtain ⟨-, q, rfl⟩ := landEvents_error slot
      exact blockReset_invariant q

/-- Everything a command is made of keeps what holds inside it. -/
theorem Clocked.keeps {p : Params} {α : Type} {m : Proc α} (h : Clocked p m) : Keeps p m := by
  induction h with
  | pure a => exact .of_run fun s hs => ⟨a, s, rfl, hs⟩
  | bind _ _ hm hf => exact hm.bind hf
  | look _ hf =>
    constructor
    · intro s a t hs run
      refine (hf s.protocol).ok s a t hs ?_
      rwa [← hs.atParams]
    · intro s e t hs run
      refine (hf s.protocol).error s e t hs ?_
      rwa [← hs.atParams]
  | pulse tms tdi =>
    rw [pulse_eq]
    exact Keeps.hostSlot.bind fun _ => .of_run fun s hs => ⟨_, _, rfl, hs.afterPulse (tms, tdi)⟩
  | trst => exact .trstPulse
  | record legal =>
    refine .of_run fun s hs => ⟨(), _, rfl, ?_, hs.done, hs.atParams⟩
    obtain ⟨phase, cache⟩ := legal s.protocol ⟨hs.inv.phaseInScan, fun v => hs.atParams ▸ hs.inv.cacheLegal v⟩
    exact { hs.inv with phaseInScan := phase, cacheLegal := fun v => by rw [← cache v, ← hs.atParams]; rfl }
  | raise v hc =>
    constructor
    · rintro s a t - ⟨⟩
    · rintro s e t hs ⟨⟩
      exact hs.inv.faulted hc v

/-! ## Commands and steps -/

/-- The initialise request is made before anything else of the command, and once (R120). -/
theorem MidCommand.initPins {s : State} (h : BlockInvariant { s with busy := false }) :
    MidCommand s.params s.initPins := by
  unfold State.initPins
  split
  next done => exact ⟨h, done, rfl⟩
  next undone =>
    have nothing : sinceReset s.trace = [] := by
      have init : initOnce s.pinInitDone s.trace := h.pinsInitialised
      simpa [initOnce, undone] using init
    refine ⟨{ h with pinsInitialised := ⟨[], ?_, nofun⟩ }, rfl, rfl⟩
    show sinceReset (.pinInit :: s.trace) = _
    rw [sinceReset, List.takeWhile_cons_of_pos (by decide)]
    exact congrArg _ nothing

theorem operandFault_code_ne_none {p : Params} {i : Instr} {c : FaultCode} {v : Word}
    (h : operandFault p i = some (c, v)) : c ≠ .none := by
  cases i with
  | shift | scanIr | scanDr | selectIr | transact =>
    simp only [operandFault] at h
    split at h
    · cases h
    · cases h
      nofun
  | _ => cases h

/-- Every command keeps the invariant, whatever events fall inside it. -/
theorem exec_invariant {i : Instr} {s t : State} (hs : BlockInvariant { s with busy := false })
    (h : exec i s = .next t) : BlockInvariant t := by
  cases check : operandFault s.params i with
  | some bad =>
    obtain ⟨c, v⟩ := bad
    rw [exec_rejected check] at h
    cases h
    exact hs.faulted (operandFault_code_ne_none check) v
  | none =>
    have keeps := (Sequenced.bodyOf check).clocked.keeps
    have start := MidCommand.initPins hs
    rw [exec_accepted check, proc_bind] at h
    cases run : bodyOf s i s.initPins with
    | error e u =>
      simp only [run] at h
      cases h
      exact keeps.error _ e u start run
    | ok r u =>
      have during := keeps.ok _ r u start run
      simp only [run] at h
      rw [proc_bind] at h
      cases slot : hostSlot u with
      | error e w =>
        simp only [slot] at h
        cases h
        exact Keeps.hostSlot.error u e w during slot
      | ok _ w =>
        simp only [slot] at h
        cases h
        exact { (Keeps.hostSlot.ok u () w during slot).inv with }

/-- A command word that the block accepts keeps the invariant, whether it decodes or not (R120). -/
theorem issueCommand_invariant {w : Word} {s t : State} (hs : BlockInvariant s) (h : issueCommand w s = .next t) :
    BlockInvariant t := by
  unfold issueCommand at h
  cases slot : hostSlot s.accepted with
  | error e u =>
    simp only [slot] at h
    cases h
    obtain ⟨-, q, rfl⟩ := landEvents_error slot
    exact blockReset_invariant q
  | ok x u =>
    have accepted : BlockInvariant { u with busy := false } := by
      rw [hostSlot_ok slot]
      exact { hs with notBusy := rfl }
    cases decoded : decode w with
    | error e =>
      simp only [slot, decoded] at h
      cases h
      exact accepted.faulted (by nofun) w
    | ok i =>
      simp only [slot, decoded] at h
      exact exec_invariant accepted h

theorem hostAccess_invariant {s : State} (hs : BlockInvariant s) (a : Access) : BlockInvariant (hostAccess a s) := by
  rw [hostAccess_eq]
  exact { hs with }

/-- Settles O57: a step resets the block, lets the host access it, or issues a command; each keeps the invariant. -/
theorem invariantKept : Obligations.InvariantKept := by
  intro s t hs h
  unfold step at h
  split at h
  next =>
    unfold nextEvent at h
    split at h
    next =>
      cases h
      exact hs
    next e es _ =>
      have ready : BlockInvariant { s with host := es } := { hs with }
      unfold hostEvent at h
      split at h
      next =>
        cases h
        exact blockReset_invariant _
      next =>
        cases h
        exact hostAccess_invariant ready _
      next =>
        split at h
        · exact issueCommand_invariant ready h
        · cases h
          exact hostAccess_invariant ready _
  next => cases h

end Sys2Proof.Machine
end

section
/-! The block's record of the TAP and the target's controller (10_state.md R25, 40_tap_sequencer.md R122): the
controller walks the pulses of each TAP Sequencer procedure by the table of R122 into the state the block then believes it in. -/

namespace Sys2Proof.Machine

/-! ## The controller over a stretch of the trace -/

theorem seeAll_append (v : TapView) (later earlier : List PinEvent) :
    v.seeAll (later ++ earlier) = (v.seeAll earlier).bind fun u => u.seeAll later := by
  induction later with
  | nil => simp [TapView.seeAll]
  | cons e later ih => simp [TapView.seeAll, ih, Option.bind_assoc]

/-- The controller's walk over a list of TMS levels, one rising edge each. -/
def TapCtl.walk (c : TapCtl) : List Bool → Option TapCtl
  | [] => some c
  | tms :: rest => (c.next tms).bind fun d => d.walk rest

theorem TapCtl.walk_append (c : TapCtl) (ts us : List Bool) :
    c.walk (ts ++ us) = (c.walk ts).bind fun d => d.walk us := by
  induction ts generalizing c with
  | nil => rfl
  | cons t ts ih => simp [TapCtl.walk, ih, Option.bind_assoc]

/-- A controller that a level leaves where it is stays there for any number of pulses at that level. -/
theorem TapCtl.walk_replicate {c : TapCtl} {tms : Bool} (stays : c.next tms = some c) (n : Nat) :
    c.walk (List.replicate n tms) = some c := by
  induction n with
  | zero => rfl
  | succ n ih => simpa [List.replicate_succ, TapCtl.walk, stays] using ih

/-- The target sees a pulse as one step of its controller (R121). -/
theorem seeAll_pulseEvents (v : TapView) (tms tdi level : Bool) :
    v.seeAll (pulseEvents tms tdi level) = (v.ctl.next tms).map fun c => ⟨c, tms⟩ := by
  simp [TapView.seeAll, TapView.see, pulseEvents]

/-- From `s` to `t` the block makes pin events that take the target's controller from `c` to `d`. -/
def Drives (s : State) (c : TapCtl) (t : State) (d : TapCtl) : Prop :=
  ∀ v : TapView, v.ctl = c → ∃ made v', t.trace = made ++ s.trace ∧ v.seeAll made = some v' ∧ v'.ctl = d

theorem Drives.trans {s t u : State} {c d e : TapCtl} (h : Drives s c t d) (h' : Drives t d u e) : Drives s c u e := by
  intro v hv
  obtain ⟨made, v', trace, seen, ctl⟩ := h v hv
  obtain ⟨made', v'', trace', seen', ctl'⟩ := h' v' ctl
  refine ⟨made' ++ made, v'', ?_, ?_, ctl'⟩
  · rw [trace', trace, List.append_assoc]
  · rw [seeAll_append, seen]
    exact seen'

theorem Drives.of_trace_eq {s t : State} {c : TapCtl} (h : t.trace = s.trace) : Drives s c t c := fun v hv =>
  ⟨[], v, h, rfl, hv⟩

theorem drives_pulsed {s : State} {qs : List Pulse} {c d : TapCtl} (h : c.walk (qs.map Prod.fst) = some d) :
    Drives s c (s.pulsed qs) d := by
  induction qs generalizing s c with
  | nil =>
    cases h
    exact .of_trace_eq rfl
  | cons q qs ih =>
    obtain ⟨e, step, rest⟩ := Option.bind_eq_some_iff.mp h
    refine Drives.trans (fun v hv => ?_) (ih (s := s.afterPulse q) rest)
    subst hv
    exact ⟨_, ⟨e, q.1⟩, rfl, by rw [seeAll_pulseEvents, step]; rfl, rfl⟩

/-! ## The walks of the TAP Sequencer -/

/-- Commit's pulses lead to Run-Test/Idle from every state the block can believe the controller in (R124). -/
theorem walk_leavePulses {s : State} {c : TapCtl} (h : s.believes c = true) :
    c.walk (s.leavePulses.map Prod.fst) = some .runTestIdle := by
  unfold State.leavePulses
  cases c with
  | testLogicReset | runTestIdle =>
    simp only [State.believes, beq_iff_eq] at h
    simp [h, TapCtl.walk, TapCtl.next]
  | shift k | exit1 k =>
    simp only [State.believes, Bool.and_eq_true, beq_iff_eq] at h
    simp [h, TapCtl.walk, TapCtl.next]
  | selectDr | selectIr | capture k | pause k | update k => cases h

theorem walk_enterPulses (k : ScanKind) : TapCtl.walk .runTestIdle ((enterPulses k).map Prod.fst) = some (.shift k) := by
  cases k <;> rfl

/-- The data pulses of a Shift stay in Shift-xR but for the last of them, where it is the scan's last (R130). -/
theorem walk_dataPulses (k : ScanKind) (n : Nat) (out : Word) (last : Bool) :
    TapCtl.walk (.shift k) ((dataPulses out last n).map Prod.fst) =
      some (if last && n != 0 then .exit1 k else .shift k) := by
  cases n with
  | zero => simp [dataPulses, TapCtl.walk]
  | succ n =>
    have levels : (dataPulses out last (n + 1)).map Prod.fst = List.replicate n false ++ [last] := by
      have before : (List.range n).map (fun i => last && i == n) = List.replicate n false :=
        by
        refine List.eq_replicate_iff.mpr ⟨by simp, fun b hb => ?_⟩
        obtain ⟨i, hi, rfl⟩ := List.mem_map.mp hb
        simp [(List.mem_range.mp hi).ne]
      simpa [dataPulses, List.range_succ, Function.comp_def] using before
    rw [levels, TapCtl.walk_append, TapCtl.walk_replicate rfl]
    cases last <;> simp [TapCtl.walk, TapCtl.next]

/-! ## The block's belief -/

theorem believes_congr {s t : State} (ht : t.tapState = s.tapState) (hp : t.shiftPhase = s.shiftPhase) (c : TapCtl) :
    t.believes c = s.believes c := by
  cases c <;> simp only [State.believes, ht, hp]

/-- A quiet procedure, whether it runs to its end or stops, takes the controller from a state the block believes it in to
such a state (R25). -/
structure Tracks (p : Params) {α : Type} (m : Proc α) : Prop where
  agrees : ∀ s c, s.quiet = true → s.params = p → s.believes c = true →
    ∃ d, Drives s c (stateOf (m s)) d ∧ (stateOf (m s)).believes d = true

theorem agrees_at {α : Type} {m : Proc α} {s : State} {c d : TapCtl} {a : α} {qs : List Pulse} {t : TapState}
    {ph : ShiftPhase} {v : Bool} {code : BitVec 4} (run : m s = .ok a (s.at qs t ph v code))
    (walks : c.walk (qs.map Prod.fst) = some d) (believes : (s.at qs t ph v code).believes d = true) :
    ∃ d, Drives s c (stateOf (m s)) d ∧ (stateOf (m s)).believes d = true := by
  rw [run]
  exact ⟨d, (drives_pulsed walks).trans (.of_trace_eq rfl), believes⟩

/-- A procedure that leaves the TAP record and the trace alone keeps the agreement. -/
theorem Tracks.of_unchanged {p : Params} {α : Type} {m : Proc α}
    (h : ∀ s, (stateOf (m s)).tapState = s.tapState ∧ (stateOf (m s)).shiftPhase = s.shiftPhase ∧
      (stateOf (m s)).trace = s.trace) : Tracks p m where
  agrees s c _ _ hb := by
    obtain ⟨ht, hp, trace⟩ := h s
    exact ⟨c, .of_trace_eq trace, (believes_congr ht hp c).trans hb⟩

theorem Tracks.bind {p : Params} {α β : Type} {m : Proc α} {f : α → Proc β} (hm : Tracks p m) (frame : Framed p m)
    (hf : ∀ a, Tracks p (f a)) : Tracks p (m >>= f) where
  agrees s c hq hp hb := by
    obtain ⟨d, drives, believes⟩ := hm.agrees s c hq hp hb
    rw [proc_bind]
    cases run : m s with
    | error e u => exact ⟨d, by simpa [run] using drives, by simpa [run] using believes⟩
    | ok a u =>
      rw [run] at drives believes
      have kept := frame.ok s a u hq hp run
      obtain ⟨d', drives', believes'⟩ :=
        (hf a).agrees u d (quiet_of_kept kept ▸ hq) (params_of_kept kept ▸ hp) believes
      exact ⟨d', drives.trans drives', believes'⟩

theorem Tracks.commit {p : Params} : Tracks p commit where
  agrees _ _ hq _ hb := agrees_at (commit_at hq) (walk_leavePulses hb) rfl

theorem Tracks.runIdle {p : Params} (n : Nat) : Tracks p (runIdle n) where
  agrees s c hq _ hb := by
    have run : Machine.runIdle n s = .ok ()
        (s.at (s.leavePulses ++ List.replicate n (false, false)) .idle .shift s.irValid s.irCache) := by
      rw [runIdle_quiet hq, State.idled, self_at]
      rfl
    refine agrees_at (d := .runTestIdle) run ?_ rfl
    rw [List.map_append, TapCtl.walk_append, walk_leavePulses hb, List.map_replicate]
    exact TapCtl.walk_replicate rfl n

theorem Tracks.enter {p : Params} (k : ScanKind) : Tracks p (enter k) where
  agrees s c hq _ hb := by
    refine agrees_at (d := .shift k) (enter_at hq k) ?_ rfl
    rw [List.map_append, TapCtl.walk_append, walk_leavePulses hb]
    exact walk_enterPulses k

/-- A fault moves neither the controller nor the block's belief (R243). -/
theorem agrees_fault {s : State} {c : TapCtl} {code : FaultCode} {v : Word} (hb : s.believes c = true) :
    ∃ d, Drives s c (takeFault code v s) d ∧ (takeFault code v s).believes d = true :=
  ⟨c, .of_trace_eq rfl, (believes_congr rfl rfl c).trans hb⟩

/-- In an open scan the block believes the controller in the Shift-xR of one of the two registers. -/
theorem believes_open_scan {s : State} {c : TapCtl} (h : s.believes c = true) (ht : s.tapState = .shifting)
    (hp : s.shiftPhase = .shift) : ∃ k, c = .shift k := by
  cases c with
  | shift k => exact ⟨k, rfl⟩
  | _ => simp [State.believes, ht, hp] at h

theorem Tracks.shift {p : Params} (n : Nat) (out : Word) (last : Bool) : Tracks p (shift n out last) where
  agrees s c hq _ hb := by
    obtain ⟨outside, afterLast⟩ := shift_misused s n out last
    by_cases ht : s.tapState = .shifting
    · cases hp : s.shiftPhase with
      | exit1 =>
        rw [afterLast ht hp]
        exact agrees_fault hb
      | shift =>
        obtain ⟨k, rfl⟩ := believes_open_scan hb ht hp
        refine agrees_at (shift_at hq ht hp n out last) (walk_dataPulses k n out last) ?_
        unfold phaseAfter
        split <;> simp [State.believes]
    · rw [outside ht]
      exact agrees_fault hb

/-- TRST low, then five pulses with TMS 1, bring the controller to Test-Logic-Reset from wherever it is (R123). -/
theorem Tracks.tapReset {p : Params} : Tracks p tapReset := by
  constructor
  intro s c hq _ _
  have released : ((s.drive .trst false).drive .trst true).quiet = true := by simp [hq]
  have run : Machine.tapReset s = .ok () (State.forgetIr (State.inTap .reset .shift
      (((s.drive .trst false).drive .trst true).pulsed (tmsPulses [true, true, true, true, true])))) := by
    unfold Machine.tapReset
    rw [proc_bind_ok (hostSlot_quiet hq), proc_bind_ok (setPin_run ..), proc_bind_ok (hostSlot_quiet (by simp [hq])),
      proc_bind_ok (setPin_run ..), proc_bind_ok (walk_quiet released _), proc_modify]
  have trst : Drives s c ((s.drive .trst false).drive .trst true) .testLogicReset := fun v _ =>
    ⟨[.drive .trst true, .drive .trst false], { v with ctl := .testLogicReset }, rfl, rfl, rfl⟩
  have pulses := drives_pulsed (s := (s.drive .trst false).drive .trst true) (c := .testLogicReset)
    (qs := tmsPulses [true, true, true, true, true]) (d := .testLogicReset) rfl
  rw [run]
  exact ⟨.testLogicReset, (trst.trans pulses).trans (.of_trace_eq rfl), rfl⟩

theorem Sequenced.tracks {p : Params} {α : Type} {m : Proc α} (h : Sequenced p m) : Tracks p m := by
  induction h with
  | pure a => exact .of_unchanged fun _ => ⟨rfl, rfl, rfl⟩
  | bind hm _ tm tf => exact tm.bind hm.clocked.framed tf
  | look _ tf =>
    constructor
    rintro s c hq rfl hb
    exact (tf s.protocol).agrees s c hq rfl hb
  | tapReset => exact .tapReset
  | commit => exact .commit
  | runIdle n => exact .runIdle n
  | enter k => exact .enter k
  | shift n out last => exact .shift n out last
  | cacheIr _ => exact .of_unchanged fun _ => ⟨rfl, rfl, rfl⟩
  | raise v _ => exact .of_unchanged fun _ => ⟨rfl, rfl, rfl⟩

/-- The initialise request does not reach the target's controller. -/
theorem drives_initPins (s : State) (c : TapCtl) : Drives s c s.initPins c := by
  unfold State.initPins
  split
  · exact .of_trace_eq rfl
  · exact fun v hv => ⟨[.pinInit], v, rfl, rfl, hv⟩

/-- Settles O58: a rejected command makes no pin event; any other ends where its procedure does. -/
theorem tapRecordStaysTrue : Obligations.TapRecordStaysTrue := by
  intro i s v hq hb
  obtain ⟨t, h⟩ : ∃ t, exec i s = .next t := ⟨_, exec_eq i s⟩
  suffices ∃ d, Drives s v.ctl t d ∧ t.believes d = true by
    obtain ⟨d, drives, believes⟩ := this
    obtain ⟨made, v', trace, seen, rfl⟩ := drives v rfl
    exact ⟨t, made, v', h, trace, seen, believes⟩
  have tracks (check : operandFault s.params i = none) := (Sequenced.bodyOf check).tracks.agrees s.initPins v.ctl
    (by simp [hq]) (by simp) ((believes_congr (by simp) (by simp) _).trans hb)
  cases exec_outcome hq h with
  | rejected c w _ after => exact after ▸ agrees_fault hb
  | completed r u check run _ after =>
    obtain ⟨d, drives, believes⟩ := tracks check
    rw [run] at drives believes
    exact ⟨d, after ▸ ((drives_initPins s _).trans drives).trans (.of_trace_eq rfl),
      after ▸ (believes_congr rfl rfl d).trans believes⟩
  | faulted c w u check run _ _ =>
    obtain ⟨d, drives, believes⟩ := tracks check
    rw [run] at drives believes
    exact ⟨d, (drives_initPins s _).trans drives, believes⟩

end Sys2Proof.Machine
end

section
/-! Host accesses inside a command (10_state.md R30, R32; log entry 4): no part of a command sees the host's own
registers, so a command undisturbed and one with accesses inside it do the same. -/

namespace Sys2Proof.Machine

/-- A change `σ` of the state that no part of a command sees, on the states of `D`, which the host's schedule decides. -/
structure Unseen (D : State → Prop) (σ : State → State) : Prop where
  host_only : ∀ s t, t.host = s.host → D s → D t
  slot : ∀ s, D s → hostSlot (σ s) = mapState σ (hostSlot s)
  slot_keeps : ∀ s x t, D s → hostSlot s = .ok x t → D t
  protocol : ∀ s, (σ s).protocol = s.protocol
  params : ∀ s, (σ s).params = s.params
  operands : ∀ s, (σ s).a0 = s.a0 ∧ (σ s).a1 = s.a1
  nextTdo : ∀ s, (σ s).nextTdo = s.nextTdo
  afterPulse : ∀ s q, (σ s).afterPulse q = σ (s.afterPulse q)
  drive : ∀ s pin level, (σ s).drive pin level = σ (s.drive pin level)
  recording : ∀ s g, (σ s).recording g = σ (s.recording g)
  takeFault : ∀ s c v, takeFault c v (σ s) = σ (takeFault c v s)
  initPins : ∀ s, (σ s).initPins = σ s.initPins
  complete : ∀ s r, (σ s).complete r = σ (s.complete r)

/-- The initialise request passes through a change that sees neither its flag nor the record of pin events. -/
theorem initPins_comm {σ : State → State} {s : State} (flag : (σ s).pinInitDone = s.pinInitDone)
    (request : { σ s with pinInitDone := true, trace := .pinInit :: (σ s).trace } =
      σ { s with pinInitDone := true, trace := .pinInit :: s.trace }) : (σ s).initPins = σ s.initPins := by
  unfold State.initPins
  rw [flag, request]
  split <;> rfl

/-- A procedure does the same on a changed state as on the state itself, and ends in the change of where that ends. -/
structure Ignores (D : State → Prop) (σ : State → State) (p : Params) {α : Type} (m : Proc α) : Prop where
  run : ∀ s, D s → s.params = p → m (σ s) = mapState σ (m s)
  keeps : ∀ s a t, D s → s.params = p → m s = .ok a t → D t ∧ t.params = p

namespace Ignores

variable {D : State → Prop} {σ : State → State} {p : Params} {α β : Type}

theorem bind {m : Proc α} {f : α → Proc β} (hm : Ignores D σ p m) (hf : ∀ a, Ignores D σ p (f a)) :
    Ignores D σ p (m >>= f) where
  run s hs hp := by
    rw [proc_bind, proc_bind, hm.run s hs hp]
    cases h : m s with
    | error e t => rfl
    | ok a t =>
      obtain ⟨ht, htp⟩ := hm.keeps s a t hs hp h
      exact (hf a).run t ht htp
  keeps s b t hs hp h := by
    obtain ⟨a, u, hu, ht⟩ := proc_bind_eq_ok h
    obtain ⟨hus, hup⟩ := hm.keeps s a u hs hp hu
    exact (hf a).keeps u b t hus hup ht

/-- A part of a command that the change passes through, and that leaves the host's schedule alone. -/
theorem of_run (hσ : Unseen D σ) {m : Proc α} {g : State → α} {f : State → State} (hm : ∀ s, m s = .ok (g s) (f s))
    (hg : ∀ s, g (σ s) = g s) (hf : ∀ s, f (σ s) = σ (f s)) (host : ∀ s, (f s).host = s.host)
    (params : ∀ s, (f s).params = s.params) : Ignores D σ p m where
  run s _ _ := by rw [hm, hm, hg, hf, mapState_ok]
  keeps s a t hs hp h := by
    cases (hm s).symm.trans h
    exact ⟨hσ.host_only s _ (host s) hs, (params s).trans hp⟩

theorem hostSlot (hσ : Unseen D σ) : Ignores D σ p hostSlot where
  run s hs _ := hσ.slot s hs
  keeps s x t hs hp h := ⟨hσ.slot_keeps s x t hs h, by rw [hostSlot_ok h]; exact hp⟩

theorem drive (hσ : Unseen D σ) (pin : Pin) (level : Bool) : Ignores D σ p (setPin pin level) :=
  of_run hσ (setPin_run pin level) (fun _ => rfl) (fun s => hσ.drive s pin level) (by simp) (by simp)

end Ignores

theorem Clocked.ignores {D : State → Prop} {σ : State → State} (hσ : Unseen D σ) {p : Params} {α : Type} {m : Proc α}
    (h : Clocked p m) : Ignores D σ p m := by
  induction h with
  | pure a => exact .of_run hσ (proc_pure a) (fun _ => rfl) (fun _ => rfl) (fun _ => rfl) (fun _ => rfl)
  | bind _ _ hm hf => exact hm.bind hf
  | look _ hf =>
    constructor
    · rintro s hs rfl
      have same := (hf s.protocol).run s hs rfl
      rw [proc_bind_ok (proc_get _), proc_bind_ok (proc_get _), hσ.protocol, hσ.params]
      exact same
    · rintro s a t hs rfl run
      exact (hf s.protocol).keeps s a t hs rfl run
  | pulse tms tdi =>
    rw [pulse_eq]
    exact (Ignores.hostSlot hσ).bind fun _ => .of_run hσ (clockPins_run tms tdi) hσ.nextTdo
      (fun s => hσ.afterPulse s (tms, tdi)) (fun _ => rfl) (fun _ => rfl)
  | trst =>
    exact (Ignores.hostSlot hσ).bind fun _ => (Ignores.drive hσ _ _).bind fun _ => (Ignores.hostSlot hσ).bind fun _ =>
      Ignores.drive hσ _ _
  | record _ =>
    exact .of_run hσ (proc_modify _) (fun _ => rfl) (fun s => hσ.recording s _) (fun _ => rfl) (fun _ => rfl)
  | raise v _ =>
    constructor
    · intro s _ _
      rw [raise_run, raise_run, hσ.takeFault, mapState_error]
    · rintro s a t - - ⟨⟩

/-- A command's procedure is the same on states that agree on the operands and the parameters. -/
theorem bodyOf_congr {s t : State} (h0 : t.a0 = s.a0) (h1 : t.a1 = s.a1) (hp : t.params = s.params) (i : Instr) :
    bodyOf t i = bodyOf s i := by
  cases i <;> simp only [bodyOf, h0, h1, hp]

/-- Every command does the same on the changed state. -/
theorem exec_ignores {D : State → Prop} {σ : State → State} (hσ : Unseen D σ) (i : Instr) {s t : State} (hs : D s)
    (h : exec i s = .next t) : exec i (σ s) = .next (σ t) := by
  cases check : operandFault s.params i with
  | some bad =>
    obtain ⟨c, v⟩ := bad
    rw [exec_rejected check] at h
    cases h
    rw [exec_rejected (hσ.params s ▸ check), hσ.takeFault]
  | none =>
    have cycle := (Sequenced.bodyOf check).clocked.ignores hσ |>.bind fun r => (Ignores.hostSlot hσ).bind fun _ =>
      .of_run hσ (proc_modify (State.complete r)) (fun _ => rfl) (fun s => hσ.complete s r) (fun _ => rfl) (fun _ => rfl)
    have start : D s.initPins := hσ.host_only s _ (by simp) hs
    rw [exec_accepted check] at h
    cases h
    obtain ⟨h0, h1⟩ := hσ.operands s
    rw [exec_accepted (hσ.params s ▸ check), bodyOf_congr h0 h1 (hσ.params s), hσ.initPins,
      cycle.run _ start (by simp), stateOf_mapState]

/-- The state with the host's own registers, the data read and the host's schedule blanked. -/
def State.inside (s : State) : State := { s.withHostSide State.reset with host := [] }

theorem landEvents_accesses {es : List HostEvent} (h : ∀ e ∈ es, ∃ a, e.act = .access a) (s : State) :
    ∃ t, landEvents es s = .ok () t ∧ t.inside = s.inside ∧ ∀ e ∈ t.host, ∃ a, e.act = .access a := by
  induction es generalizing s with
  | nil => exact ⟨_, rfl, rfl, nofun⟩
  | cons e es ih =>
    obtain ⟨tm, act⟩ := e
    obtain ⟨⟨a, rfl⟩, later⟩ := List.forall_mem_cons.mp h
    match tm with
    | .whenIdle => exact ⟨_, rfl, rfl, h⟩
    | .after (n + 1) => exact ⟨_, rfl, rfl, List.forall_mem_cons.mpr ⟨⟨a, rfl⟩, later⟩⟩
    | .after 0 =>
      obtain ⟨t, run, inside, rest⟩ := ih later (hostAccess a s)
      refine ⟨t, run, inside.trans ?_, rest⟩
      rw [hostAccess_eq]
      rfl

/-- No part of a command sees the host's registers, nor whether the host makes any access. -/
theorem unseen_inside : Unseen (fun s => ∀ e ∈ s.host, ∃ a, e.act = .access a) State.inside where
  host_only s t same hs := same ▸ hs
  slot s hs := by
    obtain ⟨t, run, inside, -⟩ := landEvents_accesses hs s
    exact (congrArg (EStateM.Result.ok ()) inside.symm).trans (congrArg (mapState State.inside) run).symm
  slot_keeps s x t hs h := by
    obtain ⟨t', run, -, accesses⟩ := landEvents_accesses hs s
    cases run.symm.trans h
    exact accesses
  protocol _ := rfl
  params _ := rfl
  operands _ := ⟨rfl, rfl⟩
  nextTdo _ := rfl
  afterPulse _ _ := rfl
  drive s pin level := by cases pin <;> rfl
  recording _ _ := rfl
  takeFault _ _ _ := rfl
  initPins _ := initPins_comm rfl rfl
  complete _ _ := rfl

/-- A quiet command leaves the host's side and the host's schedule as they were. -/
theorem CommandOutcome.host {i : Instr} {s t : State} (h : CommandOutcome i s t) :
    t.withHostSide s = t ∧ t.host = s.host := by
  have of_kept {u : State} (kept : u.kept = s.kept) : u.withHostSide s = u ∧ u.host = s.host := by
    have arg0 : u.arg0 = s.arg0 := (congrArg State.arg0 kept :)
    have arg1 : u.arg1 = s.arg1 := (congrArg State.arg1 kept :)
    have overrun : u.overrun = s.overrun := (congrArg State.overrun kept :)
    have responses : u.responses = s.responses := (congrArg State.responses kept :)
    simp only [State.withHostSide, ← arg0, ← arg1, ← overrun, ← responses]
    exact ⟨trivial, (congrArg State.host kept :)⟩
  cases h with
  | rejected c v _ after => exact after ▸ ⟨rfl, rfl⟩
  | completed r u _ _ kept after =>
    obtain ⟨side, host⟩ := of_kept kept
    exact after ▸ ⟨congrArg (State.complete r) side, host⟩
  | faulted c v u _ _ kept after =>
    obtain ⟨side, host⟩ := of_kept kept
    exact after ▸ ⟨congrArg (takeFault c v) side, host⟩

/-- Settles O14: with the host's side blanked, both runs are the command run on the blanked state. -/
theorem hostAccessesDoNotDisturb : Obligations.HostAccessesDoNotDisturb := by
  intro i s accesses
  obtain ⟨t, ht⟩ : ∃ t, exec i s = .next t := ⟨_, exec_eq i s⟩
  obtain ⟨u, hu⟩ : ∃ u, exec i { s with host := [] } = .next u := ⟨_, exec_eq i _⟩
  refine ⟨t, u, ht, hu, ?_⟩
  have disturbed := exec_ignores unseen_inside i accesses ht
  have undisturbed := exec_ignores unseen_inside i (s := { s with host := [] }) nofun hu
  have same : t.inside = u.inside := Host.Outcome.next.inj (disturbed.symm.trans undisturbed)
  obtain ⟨-, host⟩ := (exec_outcome rfl hu).host
  calc _ = { t.inside with
        arg0 := u.arg0, arg1 := u.arg1, overrun := u.overrun, responses := u.responses, host := [] } := rfl
    _ = { u with host := [] } := by rw [same]; rfl
    _ = u := congrArg (fun es => { u with host := es }) host.symm

/-! ## Where an access lands -/

/-- Before it is due, an event at a landing point counts down (log entry 4). -/
theorem hostSlot_awaiting_succ (s : State) (n : Nat) (act : HostAct) :
    hostSlot (s.awaiting (n + 1) act s.host) = .ok () (s.awaiting n act s.host) := rfl

/-- A register write does not see the host's schedule. -/
theorem writeRegister_awaiting (s : State) (offset v : Word) (n : Nat) (act : HostAct) (rest : List HostEvent) :
    writeRegister offset v (s.awaiting n act rest) = (writeRegister offset v s).awaiting n act rest := by
  simp only [writeRegister, apply_ite (fun t : State => t.awaiting n act rest)]
  rfl

/-- An access does not see the host's schedule. -/
theorem hostAccess_awaiting (a : Access) (s : State) (n : Nat) (act : HostAct) (rest : List HostEvent) :
    hostAccess a (s.awaiting n act rest) = (hostAccess a s).awaiting n act rest := by
  cases a with
  | read size address =>
    simp only [hostAccess, apply_ite (fun t : State => t.awaiting n act rest)]
    rfl
  | write size address v =>
    simp only [hostAccess, writeRegister_awaiting, apply_ite (fun t : State => t.awaiting n act rest)]
    rfl

/-- An access that is due takes effect, and what is behind it waits for the idle block. -/
theorem hostSlot_awaiting_zero {s : State} (hq : s.quiet = true) (a : Access) :
    hostSlot (s.awaiting 0 (.access a) s.host) = .ok () (s.withHostSide (hostAccess a s)) := by
  rw [hostSlot_access (rest := s.host) rfl, hostAccess_awaiting, landEvents_quiet, hostAccess_eq]
  · rfl
  · exact (quiet_of_host_eq rfl).trans hq

/-- The host's side can be changed between events without any part of a quiet command seeing it. -/
theorem unseen_withHostSide (w : State) : Unseen (fun s => s.quiet = true) (fun s => s.withHostSide w) where
  host_only s t same hs := (quiet_of_host_eq same).trans hs
  slot s hs := by
    rw [hostSlot_quiet hs]
    exact hostSlot_quiet (s := s.withHostSide w) hs
  slot_keeps s x t hs h := by
    rw [hostSlot_quiet hs] at h
    cases h
    exact hs
  protocol _ := rfl
  params _ := rfl
  operands _ := ⟨rfl, rfl⟩
  nextTdo _ := rfl
  afterPulse _ _ := rfl
  drive s pin level := by cases pin <;> rfl
  recording _ _ := rfl
  takeFault _ _ _ := rfl
  initPins _ := initPins_comm (σ := fun s => s.withHostSide w) rfl rfl
  complete _ _ := rfl

/-- What one host event does to a quiet procedure that passes `k` landing points from `s` on: an event that is due later
waits, `k` points on, and an access that is due at one of them writes the host's side from some state on the way. -/
structure LandsAt {α : Type} (m : Proc α) (s : State) (k : Nat) : Prop where
  waits : ∀ n act, k ≤ n →
    m (s.awaiting n act s.host) = mapState (fun u => u.awaiting (n - k) act u.host) (m s)
  takesEffect : ∀ n a, n < k → ∃ q, q.kept = s.kept ∧
    m (s.awaiting n (.access a) s.host) = mapState (fun u => u.withHostSide (hostAccess a q)) (m s)

namespace LandsAt

variable {α β : Type} {s : State}

theorem still {m : Proc α}
    (h : ∀ n act, m (s.awaiting n act s.host) = mapState (fun u => u.awaiting n act u.host) (m s)) : LandsAt m s 0 where
  waits n act _ := h n act
  takesEffect _ _ h := absurd h (Nat.not_lt_zero _)

theorem hostSlot (hq : s.quiet = true) : LandsAt hostSlot s 1 where
  waits n act hn := by
    obtain ⟨j, rfl⟩ := Nat.exists_eq_add_of_le' hn
    rw [hostSlot_awaiting_succ, hostSlot_quiet hq]
    rfl
  takesEffect n a hn := by
    obtain rfl : n = 0 := Nat.lt_one_iff.mp hn
    exact ⟨s, rfl, by rw [hostSlot_awaiting_zero hq, hostSlot_quiet hq, mapState_ok]⟩

theorem bind_error {m : Proc α} {f : α → Proc β} {k : Nat} {e : Stop} {t : State} (hm : LandsAt m s k)
    (run : m s = .error e t) : LandsAt (m >>= f) s k where
  waits n act hn := by rw [proc_bind, hm.waits n act hn, run, proc_bind_error run]; rfl
  takesEffect n a hn := by
    obtain ⟨q, kept, lands⟩ := hm.takesEffect n a hn
    exact ⟨q, kept, by rw [proc_bind, lands, run, proc_bind_error run]; rfl⟩

theorem bind_ok {m : Proc α} {f : α → Proc β} {k l : Nat} {a : α} {u : State} (hm : LandsAt m s k) (run : m s = .ok a u)
    (kept : u.kept = s.kept) (hf : LandsAt (f a) u l)
    (ignores : ∀ w, f a (u.withHostSide w) = mapState (fun t => t.withHostSide w) (f a u)) :
    LandsAt (m >>= f) s (k + l) where
  waits n act hn := by
    have first := hm.waits n act (by omega)
    rw [run, mapState_ok] at first
    rw [proc_bind_ok first, proc_bind_ok run, hf.waits (n - k) act (by omega), Nat.sub_sub]
  takesEffect n a hn := by
    by_cases inFirst : n < k
    · obtain ⟨q, hq, lands⟩ := hm.takesEffect n a inFirst
      rw [run, mapState_ok] at lands
      exact ⟨q, hq, by rw [proc_bind_ok lands, proc_bind_ok run, ignores]⟩
    · have first := hm.waits n (.access a) (by omega)
      rw [run, mapState_ok] at first
      obtain ⟨q, hq, lands⟩ := hf.takesEffect (n - k) a (by omega)
      exact ⟨q, hq.trans kept, by rw [proc_bind_ok first, proc_bind_ok run, lands]⟩

end LandsAt

/-- A procedure passes as many landing points as the pin events it makes have (R253). -/
structure Lands (p : Params) {α : Type} (m : Proc α) : Prop where
  landing : ∀ s, s.quiet = true → s.params = p →
    ∃ made, (stateOf (m s)).trace = made ++ s.trace ∧ LandsAt m s (landingPoints made)

theorem landingPoints_append (later earlier : List PinEvent) :
    landingPoints (later ++ earlier) = landingPoints earlier + landingPoints later := by
  rw [landingPoints, List.countP_append, Nat.add_comm]
  rfl

theorem Lands.bind {p : Params} {α β : Type} {m : Proc α} {f : α → Proc β} (hm : Lands p m) (frame : Framed p m)
    (hf : ∀ a, Lands p (f a)) (ignores : ∀ a w, Ignores (fun s => s.quiet = true) (fun s => s.withHostSide w) p (f a)) :
    Lands p (m >>= f) where
  landing s hq hp := by
    obtain ⟨made, trace, lands⟩ := hm.landing s hq hp
    cases run : m s with
    | error e u => exact ⟨made, by rw [proc_bind_error run, ← trace, run]; rfl, lands.bind_error run⟩
    | ok a u =>
      have kept := frame.ok s a u hq hp run
      have quiet := quiet_of_kept kept ▸ hq
      have params := params_of_kept kept ▸ hp
      obtain ⟨made', trace', lands'⟩ := (hf a).landing u quiet params
      refine ⟨made' ++ made, ?_, landingPoints_append made' made ▸
        lands.bind_ok run kept lands' fun w => (ignores a w).run u quiet params⟩
      rw [run] at trace
      rw [proc_bind_ok run, trace', List.append_assoc]
      exact congrArg _ trace

/-- A procedure that makes no pin event passes no landing point. -/
theorem Lands.still {p : Params} {α : Type} {m : Proc α} (trace : ∀ s, (stateOf (m s)).trace = s.trace)
    (h : ∀ s n act, m (s.awaiting n act s.host) = mapState (fun u => u.awaiting n act u.host) (m s)) : Lands p m where
  landing s _ _ := ⟨[], trace s, .still (h s)⟩

/-- A landing point and the pin events right behind it. -/
theorem Lands.slot {p : Params} {α : Type} {m : Proc α} (made : State → List PinEvent)
    (trace : ∀ s, (stateOf (m s)).trace = made s ++ s.trace) (one : ∀ s, landingPoints (made s) = 1)
    (waits : ∀ s n act, m (s.awaiting n act s.host) = mapState (fun u => u.awaiting n act u.host) (m s))
    (ignores : ∀ s w, m (s.withHostSide w) = mapState (fun t => t.withHostSide w) (m s)) :
    Lands p (hostSlot >>= fun _ => m) where
  landing s hq _ := by
    have run := hostSlot_quiet hq
    refine ⟨made s, ?_, one s ▸ (LandsAt.hostSlot hq).bind_ok run rfl (.still (waits s)) (ignores s)⟩
    rw [proc_bind_ok run]
    exact trace s

theorem Lands.trstEvent {p : Params} (level : Bool) : Lands p (hostSlot >>= fun _ => setPin .trst level) :=
  .slot (fun _ => [.drive .trst level]) (fun _ => rfl) (fun _ => rfl) (fun _ _ _ => rfl) (fun _ _ => rfl)

/-- Every procedure a command is made of passes the landing points of the pin events it makes (R253). -/
theorem Clocked.lands {p : Params} {α : Type} {m : Proc α} (h : Clocked p m) : Lands p m := by
  induction h with
  | pure a => exact .still (fun _ => rfl) fun _ _ _ => rfl
  | bind hm hf lm lf => exact lm.bind hm.framed lf fun a w => (hf a).ignores (unseen_withHostSide w)
  | look _ lf =>
    constructor
    rintro s hq rfl
    obtain ⟨made, trace, lands⟩ := (lf s.protocol).landing s hq rfl
    exact ⟨made, trace, lands.waits, lands.takesEffect⟩
  | pulse tms tdi =>
    rw [pulse_eq]
    exact .slot (fun s => pulseEvents tms tdi s.nextTdo) (fun _ => rfl) (fun _ => rfl) (fun _ _ _ => rfl) fun _ _ => rfl
  | trst =>
    have events : trstPulse = (do hostSlot; setPin .trst false) >>= fun _ => (do hostSlot; setPin .trst true) := by
      simp only [trstPulse, bind_assoc]
    have low : Framed p (do hostSlot; setPin .trst false) := .of_run fun s hq _ =>
      ⟨_, _, (proc_bind_ok (hostSlot_quiet hq)).trans (setPin_run ..), kept_drive ..⟩
    rw [events]
    refine (Lands.trstEvent false).bind low (fun _ => .trstEvent true) fun _ w => ?_
    exact (Ignores.hostSlot (unseen_withHostSide w)).bind fun _ => Ignores.drive (unseen_withHostSide w) _ _
  | record _ => exact .still (fun _ => rfl) fun _ _ _ => rfl
  | raise v _ => exact .still (fun _ => rfl) fun _ _ _ => rfl

/-- The last landing point of a command, and its completion (R120). -/
theorem LandsAt.completion {u : State} (hq : u.quiet = true) (r : Option Word) :
    LandsAt (Machine.hostSlot >>= fun _ => modify (State.complete r)) u 1 :=
  (LandsAt.hostSlot hq).bind_ok (hostSlot_quiet hq) rfl (.still fun _ _ => rfl) fun _ => rfl

/-- What a command's cycle does with a host event, the command itself does. -/
theorem exec_of_landsAt {i : Instr} {s u : State} {k : Nat} (check : operandFault s.params i = none)
    (h : exec i s = .next u)
    (lands : LandsAt (bodyOf s i >>= fun r => hostSlot >>= fun _ => modify (State.complete r)) s.initPins k) :
    (∀ n act, k ≤ n → exec i (s.awaiting n act s.host) = .next (u.awaiting (n - k) act u.host)) ∧
      ∀ n a, n < k → ∃ q, q.kept = s.kept ∧
        exec i (s.awaiting n (.access a) s.host) = .next (u.withHostSide (hostAccess a q)) := by
  have start (n : Nat) (act : HostAct) :
      (s.awaiting n act s.host).initPins = s.initPins.awaiting n act s.initPins.host := by
    rw [initPins_comm (σ := fun s' => s'.awaiting n act s.host) rfl rfl]
    simp
  have cycle (n : Nat) (act : HostAct) := exec_accepted (s := s.awaiting n act s.host) check
  simp only [bodyOf_congr (s := s) (t := s.awaiting _ _ s.host) rfl rfl rfl i, start] at cycle
  rw [exec_accepted check] at h
  cases h
  refine ⟨fun n act hn => ?_, fun n a hn => ?_⟩
  · rw [cycle, lands.waits n act hn, stateOf_mapState]
  · obtain ⟨q, kept, effect⟩ := lands.takesEffect n a hn
    exact ⟨q, kept.trans (kept_initPins s), by rw [cycle, effect, stateOf_mapState]⟩

theorem initPins_makes (s : State) : ∃ made, s.initPins.trace = made ++ s.trace ∧ landingPoints made = 0 := by
  unfold State.initPins
  split
  · exact ⟨[], rfl, rfl⟩
  · exact ⟨[.pinInit], rfl, rfl⟩

/-- What one host event does to a quiet command on an unfaulted block, by the command's landing points (log entry 4). -/
theorem exec_landing {i : Instr} {s u : State} (hq : s.quiet = true) (hf : s.fault = false) (h : exec i s = .next u) :
    ∃ made, u.trace = made ++ s.trace ∧
      (∀ n act, commandPoints made u.fault ≤ n →
        exec i (s.awaiting n act s.host) = .next (u.awaiting (n - commandPoints made u.fault) act u.host)) ∧
      ∀ n a, n < commandPoints made u.fault → ∃ q, q.kept = s.kept ∧
        exec i (s.awaiting n (.access a) s.host) = .next (u.withHostSide (hostAccess a q)) := by
  obtain ⟨first, initTrace, initPoints⟩ := initPins_makes s
  have body (check : operandFault s.params i = none) :=
    (Sequenced.bodyOf check).clocked.lands.landing s.initPins (by simp [hq]) (by simp)
  cases exec_outcome hq h with
  | rejected c v check after =>
    subst after
    exact ⟨[], rfl, fun n act _ => exec_rejected check, fun n a hn => absurd hn (Nat.not_lt_zero n)⟩
  | faulted c v w check run _ after =>
    obtain ⟨made, trace, lands⟩ := body check
    rw [run, stateOf_error, initTrace, ← List.append_assoc] at trace
    refine ⟨made ++ first, trace, exec_of_landsAt check h ?_⟩
    rw [commandPoints, landingPoints_append, initPoints, Nat.zero_add, after]
    exact lands.bind_error run
  | completed r w check run kept after =>
    obtain ⟨made, trace, lands⟩ := body check
    rw [run, stateOf_ok, initTrace, ← List.append_assoc] at trace
    have quiet : w.quiet = true := quiet_of_kept kept ▸ hq
    have unfaulted : u.fault = false := by
      rw [after]
      exact (congrArg State.fault kept :).trans hf
    refine ⟨made ++ first, by rw [after]; exact trace, exec_of_landsAt check h ?_⟩
    rw [commandPoints, landingPoints_append, initPoints, Nat.zero_add, unfaulted]
    refine lands.bind_ok run (kept.trans (kept_initPins s).symm) (.completion quiet r) fun side => ?_
    rw [proc_bind_ok (hostSlot_quiet quiet), proc_bind_ok (hostSlot_quiet (s := w.withHostSide side) quiet)]
    rfl

/-- Settles O15: a due access writes the host's side from a state on the way, which shows the host what the state before
the command does. -/
theorem accessesLandInsideCommands : Obligations.AccessesLandInsideCommands := by
  intro i s n v rest hb hf hq
  obtain ⟨u, h⟩ : ∃ u, exec i { s with host := rest } = .next u := ⟨_, exec_eq i _⟩
  obtain ⟨side, host⟩ := (exec_outcome hq h).host
  obtain ⟨made, trace, waits, effect⟩ := exec_landing hq hf h
  refine ⟨u, made, h, trace, fun hn a => ?_, fun hn => ?_⟩
  · rw [← congrArg (fun es => State.awaiting u _ _ es) host]
    exact waits n (.access a) hn
  · have landed (a : Access) : ∃ q, q.busy = true ∧ q.fault = false ∧ q.result = s.result ∧ q.params = s.params ∧
        u.withHostSide q = u ∧ exec i (s.awaiting n (.access a) rest) = .next (u.withHostSide (hostAccess a q)) := by
      obtain ⟨q, kept, run⟩ := effect n a hn
      refine ⟨q, (congrArg State.busy kept).trans hb, (congrArg State.fault kept).trans hf,
        (congrArg State.result kept :), (congrArg State.params kept :), ?_, run⟩
      exact (congrArg (fun w => u.withHostSide w) kept :).trans side
    refine ⟨?_, ?_, ?_, ?_, ?_⟩
    · obtain ⟨q, -, -, -, params, same, run⟩ := landed (.write .word (s.params.blockBase + 0x04) v)
      rw [run, ← params, hostAccess_write (by decide)]
      exact congrArg (fun u' : State => Host.Outcome.next { u' with arg0 := v }) same
    · obtain ⟨q, -, -, -, params, same, run⟩ := landed (.write .word (s.params.blockBase + 0x08) v)
      rw [run, ← params, hostAccess_write (by decide)]
      exact congrArg (fun u' : State => Host.Outcome.next { u' with arg1 := v }) same
    · obtain ⟨q, busy, -, -, params, same, run⟩ := landed (.write .word s.params.blockBase v)
      rw [run, ← params, hostAccess_cmd_busy busy]
      exact congrArg (fun u' : State => Host.Outcome.next { u' with overrun := true }) same
    · obtain ⟨q, -, -, result, params, same, run⟩ := landed (.read .word (s.params.blockBase + 0x0C))
      rw [run, ← params, hostAccess_read (by decide), ← result]
      exact congrArg (fun u' : State => Host.Outcome.next { u' with responses := q.result :: u'.responses }) same
    · obtain ⟨q, busy, fault, -, params, same, run⟩ := landed (.read .word (s.params.blockBase + 0x10))
      obtain ⟨busyBit, faultBit, -⟩ := statusWord_flags q
      refine ⟨q.statusWord, ?_, busyBit.trans busy, faultBit.trans fault⟩
      rw [run, ← params, hostAccess_read (by decide)]
      exact congrArg (fun u' : State => Host.Outcome.next { u' with responses := q.statusWord :: u'.responses }) same

end Sys2Proof.Machine
end

section
/-! Commands made of transactions (42_dap_engine.md R181, R184, R197; 43_ap_memory.md R230, R232): how one ends, and what
the pipeline contract of 20_memory.md R60 makes of the acks it checks and the data it returns. -/

namespace Sys2Proof.Machine

/-! ## Lists of transactions -/

@[simp] theorem transactedAll_nil (s : State) : s.transactedAll [] = s := rfl

theorem acksOk_append (s : State) (pre post : List Request) :
    s.acksOk (pre ++ post) = (s.acksOk pre && (s.transactedAll pre).acksOk post) := by
  induction pre generalizing s with
  | nil => rfl
  | cons r pre ih => simp only [List.cons_append, State.acksOk, ih, Bool.and_assoc]; rfl

/-- Where all acks are OK, those before a transaction and its own are. -/
theorem acksOk_split {s : State} {pre post : List Request} {r : Request} (acks : s.acksOk (pre ++ r :: post) = true) :
    s.acksOk pre = true ∧ (s.transactedAll pre).ackOk r = true := by
  rw [acksOk_append, Bool.and_eq_true] at acks
  obtain ⟨before, after⟩ := acks
  obtain ⟨own, -⟩ := Bool.and_eq_true_iff.mp after
  exact ⟨before, own⟩

theorem exchanges_cons_ok {s : State} {r : Request} (ok : s.ackOk r = true) (rs : List Request) :
    s.exchanges (r :: rs) = ⟨r, s.ackOf r, some (s.dataOf r)⟩ :: (s.transacted r).exchanges rs :=
  if_pos ok

theorem exchanges_cons_refused {s : State} {r : Request} (bad : s.ackOk r = false) (rs : List Request) :
    s.exchanges (r :: rs) = [⟨r, s.ackOf r, none⟩] :=
  if_neg (by simp [bad])

/-- The transaction whose ack is not OK is the last one made (R181, R243). -/
theorem exchanges_length_refused {s : State} {pre post : List Request} {r : Request} (acks : s.acksOk pre = true)
    (bad : (s.transactedAll pre).ackOk r = false) : (s.exchanges (pre ++ r :: post)).length = pre.length + 1 := by
  induction pre generalizing s with
  | nil => exact congrArg List.length (exchanges_cons_refused bad post)
  | cons q pre ih =>
    obtain ⟨ok, acks⟩ := Bool.and_eq_true_iff.mp acks
    rw [List.cons_append, exchanges_cons_ok ok]
    exact congrArg Nat.succ (ih acks bad)

/-! ## How a procedure made of transactions ends -/

/-- How a procedure made of the transactions `rs`, and at most the comparison of a DP CSW after them, ends when it runs on
`s`: it completes with a value of which `Q` holds, an ack is not OK, or the DP CSW is not the expected one. -/
inductive TransactionsResult (s : State) (rs : List Request) {α : Type} (Q : α → Prop) :
    EStateM.Result Stop State α → Prop
  | completed {a : α} (acks : s.acksOk rs = true) (value : Q a) : TransactionsResult s rs Q (.ok a (s.transactedAll rs))
  | refused {pre post : List Request} {r : Request} (split : rs = pre ++ r :: post) (acks : s.acksOk pre = true)
    (bad : (s.transactedAll pre).ackOk r = false) :
    TransactionsResult s rs Q (.error .faulted ((s.transactedAll pre).ackRefused r))
  | mismatched (csw : Word) (acks : s.acksOk rs = true) :
    TransactionsResult s rs Q (.error .faulted (takeFault .cswStatusMismatch csw (s.transactedAll rs)))

namespace TransactionsResult

variable {α β : Type} {s : State} {rs : List Request}

/-- A transaction with an OK ack before the others. -/
theorem cons_ok {r : Request} {Q : α → Prop} {res : EStateM.Result Stop State α} (ok : s.ackOk r = true)
    (h : TransactionsResult (s.transacted r) rs Q res) : TransactionsResult s (r :: rs) Q res := by
  have acksOk_cons : ∀ {qs}, (s.transacted r).acksOk qs = true → s.acksOk (r :: qs) = true :=
    fun acks => Bool.and_eq_true_iff.mpr ⟨ok, acks⟩
  cases h with
  | completed acks value => exact completed (acksOk_cons acks) value
  | refused split acks bad => exact refused (pre := r :: _) (congrArg (r :: ·) split) (acksOk_cons acks) bad
  | mismatched csw acks => exact mismatched csw (acksOk_cons acks)

/-- A transaction and then a procedure made of the others. -/
theorem bind (hq : s.quiet = true) (r : Request) {Q : α → Prop} {f : Word → Proc α}
    (rest : TransactionsResult (s.transacted r) rs Q (f (s.dataOf r) (s.transacted r))) :
    TransactionsResult s (r :: rs) Q ((transact r.ir r.op3 r.arg >>= f) s) := by
  cases ack : s.ackOk r with
  | true =>
    rw [proc_bind_ok (transact_ok hq r ack)]
    exact cons_ok ack rest
  | false =>
    rw [proc_bind_error (transact_refused hq r ack)]
    exact refused (pre := []) rfl rfl ack

/-- The value of a procedure, handed on through a function. -/
theorem map {Q : β → Prop} {m : Proc α} (g : α → β) (h : TransactionsResult s rs (fun a => Q (g a)) (m s)) :
    TransactionsResult s rs Q ((m >>= fun a => pure (g a)) s) := by
  cases run : m s with
  | ok a t =>
    rw [run] at h
    rw [proc_bind_ok run, proc_pure]
    cases h with
    | completed acks value => exact completed acks value
  | error e t =>
    rw [run] at h
    rw [proc_bind_error run]
    cases h with
    | refused split acks bad => exact refused split acks bad
    | mismatched csw acks => exact mismatched csw acks

theorem anyValue {Q : α → Prop} {res : EStateM.Result Stop State α} (h : TransactionsResult s rs Q res) :
    TransactionsResult s rs (fun _ => True) res := by
  cases h with
  | completed acks value => exact completed acks trivial
  | refused split acks bad => exact refused split acks bad
  | mismatched csw acks => exact mismatched csw acks

/-- The comparison that ends CheckedRead (R197). -/
theorem checkCsw (csw expected d : Word) :
    TransactionsResult s [] (fun v => v = d ∧ csw = expected)
      ((verify (csw == expected) .cswStatusMismatch csw >>= fun _ => pure d) s) := by
  cases same : csw == expected with
  | true =>
    rw [proc_bind_ok (verify_pass rfl ..), proc_pure]
    exact completed rfl ⟨rfl, beq_iff_eq.mp same⟩
  | false =>
    rw [proc_bind_error (verify_fail rfl ..)]
    exact mismatched csw rfl

variable {p : Params}

/-- CheckedRead returns the data of its first transaction, and only past the expected DP CSW (R197). -/
theorem checkedRead (hq : s.quiet = true) (hp : s.params = p) :
    TransactionsResult s (checkedReadRequests p)
      (fun v => v = s.dataOf ⟨p.dapIrDpacc, p.op3DpNop, 0⟩ ∧ s.cswRead = p.cswExpect) (checkedRead s) := by
  subst hp
  rw [Machine.checkedRead, proc_bind_ok (config_run s)]
  exact bind hq ⟨_, _, _⟩ (bind (by simp [hq]) ⟨_, _, _⟩ (bind (by simp [hq]) ⟨_, _, _⟩ (checkCsw ..)))

/-- MemRead returns what its CheckedRead returns (43_ap_memory.md R230). -/
theorem memRead (hq : s.quiet = true) (hp : s.params = p) (addr : Word) :
    TransactionsResult s (readRequests p addr ++ checkedReadRequests p)
      (fun v => v = (s.transactedAll (readRequests p addr)).dataOf ⟨p.dapIrDpacc, p.op3DpNop, 0⟩ ∧
        (s.transactedAll (readRequests p addr)).cswRead = p.cswExpect) (memRead addr s) := by
  subst hp
  rw [Machine.memRead, proc_bind_ok (config_run s)]
  exact bind hq ⟨_, _, _⟩ (bind (by simp [hq]) ⟨_, _, _⟩ (checkedRead (by simp [hq]) (by simp)))

/-- MemWrite drops what its CheckedRead returns (R232). -/
theorem memWrite (hq : s.quiet = true) (hp : s.params = p) (addr value : Word) :
    TransactionsResult s (writeRequests p addr value ++ checkedReadRequests p) (fun _ => True)
      (memWrite addr value s) := by
  subst hp
  rw [Machine.memWrite, proc_bind_ok (config_run s)]
  exact bind hq ⟨_, _, _⟩ (bind (by simp [hq]) ⟨_, _, _⟩ (map _ (checkedRead (by simp [hq]) (by simp)).anyValue))

end TransactionsResult

/-! ## Commands made of transactions -/

/-- A command that is one transaction runs it and returns its data (R181, R184). -/
theorem bodyOf_transact {s : State} {i : Instr} {r : Request} (h : requestsOf s i = some [r]) :
    bodyOf s i = do let d ← transact r.ir r.op3 r.arg; return some d := by
  cases i <;> cases h <;> rfl

/-- A command that is one transaction completes with its data, or stops at its ack (R181). -/
theorem exec_transact {s : State} {i : Instr} {r : Request} (hq : s.quiet = true) (wf : i.wellFormed s.params = true)
    (h : requestsOf s i = some [r]) :
    exec i s = .next (if s.initPins.ackOk r then (s.initPins.transacted r).complete (some (s.initPins.dataOf r))
      else s.initPins.ackRefused r) := by
  have quiet : s.initPins.quiet = true := by simp [hq]
  rw [exec_eq, (operandFault_eq_none_iff _ i).mpr wf, bodyOf_transact h]
  cases ack : s.initPins.ackOk r with
  | true => exact runCommand_value (transact_ok quiet r ack) (by simp [hq])
  | false => exact runCommand_error (transact_refused quiet r ack)

/-- Every command made of transactions makes those `requestsOf` lists. -/
theorem bodyOf_transactions {s : State} {i : Instr} {rs : List Request} (hq : s.quiet = true)
    (hr : requestsOf s i = some rs) : TransactionsResult s.initPins rs (fun _ => True) (bodyOf s i s.initPins) := by
  have quiet : s.initPins.quiet = true := by simp [hq]
  have params : s.initPins.params = s.params := initPins_params s
  cases i with
  | checkedRead =>
    cases hr
    exact .map some (TransactionsResult.checkedRead quiet params).anyValue
  | apRead =>
    cases hr
    exact .map some (TransactionsResult.memRead quiet params s.a0).anyValue
  | apWrite =>
    cases hr
    exact .map _ (TransactionsResult.memWrite quiet params s.a0 s.a1)
  | reset | commit | runIdle | enterIr | enterDr | shift | scanIr | scanDr | selectIr | icepickBringup | dapInit =>
    cases hr
  | _ =>
    cases hr
    rw [bodyOf_transact rfl]
    exact .bind quiet _ (.completed rfl trivial)

/-- A command that ends without a fault has run its procedure to the end. -/
theorem exec_unfaulted {i : Instr} {s t : State} (hq : s.quiet = true) (h : exec i s = .next t)
    (unfaulted : t.fault = false) : ∃ r u, bodyOf s i s.initPins = .ok r u ∧ t = u.complete r := by
  cases exec_outcome hq h with
  | rejected c v _ after => simp [after] at unfaulted
  | faulted c v u _ _ _ after => simp [after] at unfaulted
  | completed r u _ run _ after => exact ⟨r, u, run, after⟩

/-- A command that hands on the value of a procedure made of transactions, where it ends without a fault. -/
theorem exec_value {i : Instr} {s t : State} {m : Proc Word} {rs : List Request} {Q : Word → Prop} (hq : s.quiet = true)
    (body : bodyOf s i = do let r ← m; return some r) (made : TransactionsResult s.initPins rs Q (m s.initPins))
    (h : exec i s = .next t) (unfaulted : t.fault = false) : s.initPins.acksOk rs = true ∧ Q t.result := by
  obtain ⟨r, u, run, rfl⟩ := exec_unfaulted hq h unfaulted
  rw [body] at run
  obtain ⟨v, w, made_run, last⟩ := proc_bind_eq_ok run
  cases last
  rw [made_run] at made
  cases made with
  | completed acks value => exact ⟨acks, value⟩

/-- A command with operands in range that takes a fault takes it in its procedure. -/
theorem exec_faulted {i : Instr} {s t : State} (hq : s.quiet = true) (hf : s.fault = false)
    (wf : i.wellFormed s.params = true) (h : exec i s = .next t) (faulted : t.fault = true) :
    bodyOf s i s.initPins = .error .faulted t := by
  cases exec_outcome hq h with
  | rejected c v check _ => simp [(operandFault_eq_none_iff _ i).mpr wf] at check
  | faulted c v u _ run _ _ => exact run
  | completed r u _ _ kept after =>
    have unfaulted : t.fault = false := by
      rw [after]
      exact (congrArg State.fault kept :).trans hf
    simp [unfaulted] at faulted

/-! ## What the pipeline contract makes of acks and data -/

/-- 3-bit acknowledge codes extended to a word are equal only where the codes are. -/
theorem ack_setWidth_inj {x y : BitVec 3} : x.setWidth 32 = y.setWidth 32 ↔ x = y := by
  constructor
  · intro h
    bv_omega
  · exact congrArg _

theorem requestsBefore_append (past pre post : List Request) :
    requestsBefore past (pre ++ post) pre.length = pre.reverse ++ past := by
  simp [requestsBefore]

section Pipeline

variable {s : State} {p : Params} {target : Target} {past pre post older : List Request} {q r : Request}

/-- On a target that keeps the contract, a transaction made after others captures the status of the one before it and,
after a read, its answer (R60). -/
theorem transaction_reports (params : s.params = p) (access : ∀ x ∈ pre ++ r :: post, x.ir ≠ p.dapIrAbort)
    (pipe : keepsPipeline p target past (s.exchanges (pre ++ r :: post))) (acks : s.acksOk pre = true)
    (before : pre.reverse ++ past = q :: older) :
    (s.transactedAll pre).ackOf r = (target.status (q :: older)).setWidth 32 ∧
    ((s.transactedAll pre).ackOk r = true → q.isRead = true →
      (s.transactedAll pre).dataOf r = target.answer (q :: older)) := by
  induction pre generalizing s past with
  | nil =>
    have noAbort : r.ir ≠ p.dapIrAbort := access r (by simp)
    obtain rfl : past = q :: older := before
    cases ack : s.ackOk r with
    | true =>
      rw [List.nil_append, exchanges_cons_ok ack, keepsPipeline, if_neg noAbort] at pipe
      obtain ⟨status, answer⟩ := pipe.1 q older rfl
      exact ⟨status, fun _ read => answer _ read rfl⟩
    | false =>
      rw [List.nil_append, exchanges_cons_refused ack, keepsPipeline, if_neg noAbort] at pipe
      obtain ⟨status, -⟩ := pipe.1 q older rfl
      exact ⟨status, fun ok => absurd (ack.symm.trans ok) (by simp)⟩
  | cons x pre ih =>
    obtain ⟨ok, acks⟩ := Bool.and_eq_true_iff.mp acks
    have noAbort : x.ir ≠ p.dapIrAbort := access x (by simp)
    rw [List.cons_append, exchanges_cons_ok ok, keepsPipeline, if_neg noAbort] at pipe
    obtain ⟨-, rest⟩ := pipe
    exact ih (s := s.transacted x) (past := x :: past) ((transacted_params s x).trans params)
      (fun y hy => access y (List.mem_cons_of_mem x hy)) rest acks (by simpa using before)

/-- On such a target the block finds an ack OK exactly where the status of the transaction before it is OK. -/
theorem ackOk_iff_status (params : s.params = p) (access : ∀ x ∈ pre ++ r :: post, x.ir ≠ p.dapIrAbort)
    (pipe : keepsPipeline p target past (s.exchanges (pre ++ r :: post))) (acks : s.acksOk pre = true)
    (before : pre.reverse ++ past = q :: older) :
    (s.transactedAll pre).ackOk r = true ↔ target.status (q :: older) = p.ackOk := by
  obtain ⟨status, -⟩ := transaction_reports params access pipe acks before
  rw [State.ackOk, beq_iff_eq, status, transactedAll_params, params, ack_setWidth_inj]

/-- Where all acks are OK, the data of a transaction made after a read is the answer to that read. -/
theorem answer_of_acksOk (params : s.params = p) (access : ∀ x ∈ pre ++ r :: post, x.ir ≠ p.dapIrAbort)
    (pipe : keepsPipeline p target past (s.exchanges (pre ++ r :: post))) (acks : s.acksOk (pre ++ r :: post) = true)
    (before : pre.reverse ++ past = q :: older) (read : q.isRead = true) :
    (s.transactedAll pre).dataOf r = target.answer (q :: older) := by
  obtain ⟨earlier, own⟩ := acksOk_split acks
  obtain ⟨-, answer⟩ := transaction_reports params access pipe earlier before
  exact answer own read

/-- The statuses learnt by transactions with OK acks are OK. -/
theorem status_of_acksOk (params : s.params = p) (access : ∀ x ∈ pre ++ post, x.ir ≠ p.dapIrAbort)
    (pipe : keepsPipeline p target past (s.exchanges (pre ++ post))) (acks : s.acksOk pre = true) {k : Nat}
    (hk : k < pre.length) (learns : requestsBefore past (pre ++ post) k ≠ []) :
    target.status (requestsBefore past (pre ++ post) k) = p.ackOk := by
  obtain ⟨a, x, c, rfl, rfl⟩ : ∃ a x c, pre = a ++ x :: c ∧ a.length = k :=
    ⟨pre.take k, pre[k], pre.drop (k + 1), by simp, by simp; omega⟩
  obtain ⟨earlier, own⟩ := acksOk_split acks
  simp only [List.append_assoc, List.cons_append, requestsBefore_append] at pipe access learns ⊢
  obtain ⟨y, older, before⟩ := List.exists_cons_of_ne_nil learns
  rw [before]
  exact (ackOk_iff_status params access pipe earlier before).mp own

/-- The first ack that is not OK is a status that is not OK. -/
theorem status_of_refused (params : s.params = p) (access : ∀ x ∈ pre ++ r :: post, x.ir ≠ p.dapIrAbort)
    (pipe : keepsPipeline p target past (s.exchanges (pre ++ r :: post))) (acks : s.acksOk pre = true)
    (bad : (s.transactedAll pre).ackOk r = false) (learns : pre.reverse ++ past ≠ []) :
    target.status (pre.reverse ++ past) ≠ p.ackOk ∧
    (s.transactedAll pre).ackOf r = (target.status (pre.reverse ++ past)).setWidth 32 := by
  obtain ⟨y, older, before⟩ := List.exists_cons_of_ne_nil learns
  obtain ⟨ack, -⟩ := transaction_reports params access pipe acks before
  rw [before, Ne, ← ackOk_iff_status params access pipe acks before, bad]
  exact ⟨Bool.false_ne_true, ack⟩

end Pipeline

/-! ## The obligations -/

/-- Settles O46: the command's one transaction checks the status of the one before it. -/
theorem transactionReportsOnThePreviousOne : Obligations.TransactionReportsOnThePreviousOne := by
  intro s t i r q target older hq hf wf hr noAbort pipe h
  have params : s.initPins.params = s.params := initPins_params s
  have access : ∀ x ∈ [] ++ [r], x.ir ≠ s.params.dapIrAbort := by simpa using noAbort
  have status := ackOk_iff_status (pre := []) params access pipe rfl rfl
  obtain ⟨ack, answer⟩ := transaction_reports (pre := []) params access pipe rfl rfl
  rw [transactedAll_nil] at ack answer status
  rw [exec_transact hq wf hr] at h
  rw [Ne, ← status]
  cases ok : s.initPins.ackOk r with
  | true =>
    obtain rfl : (s.initPins.transacted r).complete (some (s.initPins.dataOf r)) = t := by simpa [ok] using h
    have unfaulted : (s.initPins.transacted r).fault = false := by simp [transacted_at, State.at, hf]
    simpa [unfaulted] using answer ok
  | false =>
    obtain rfl : s.initPins.ackRefused r = t := by simpa [ok] using h
    simpa [State.ackRefused] using ack

/-- Settles O47: an ack is checked in every transaction made, and it is the status of the one before. -/
theorem acksReportOnPreviousTransactions : Obligations.AcksReportOnPreviousTransactions := by
  intro s t i rs target past hq hf wf hr access pipe h
  have params : s.initPins.params = s.params := initPins_params s
  have made := bodyOf_transactions hq hr
  constructor
  · intro unfaulted k hk learns
    obtain ⟨v, u, run, -⟩ := exec_unfaulted hq h unfaulted
    rw [run] at made
    cases made with
    | completed acks _ =>
      rw [← List.append_nil rs] at access pipe learns ⊢
      exact status_of_acksOk params access pipe acks hk learns
  · intro faulted code
    have run := exec_faulted hq hf wf h faulted
    rw [run] at made
    cases made with
    | mismatched csw acks => cases code
    | @refused pre post r split acks bad =>
      subst split
      refine ⟨pre.length, by simp, exchanges_length_refused acks bad,
        fun j hj learns => status_of_acksOk params access pipe acks hj learns, ?_⟩
      rw [requestsBefore_append]
      exact status_of_refused params access pipe acks bad

/-- Settles O48: RESULT is the data of the third transaction, which reports on the DRW read. -/
theorem apReadReturnsTheBusRead : Obligations.ApReadReturnsTheBusRead := by
  intro s t target past hq hf apacc dpacc read pipe h unfaulted
  have params : s.initPins.params = s.params := initPins_params s
  obtain ⟨acks, value, -⟩ := exec_value hq rfl (.memRead (by simp [hq]) params s.a0) h unfaulted
  rw [value]
  exact answer_of_acksOk (older := _ :: past) params (by simp [readRequests, apacc, dpacc]) pipe acks rfl read

/-- Settles O49: RESULT is the data of the first transaction, which reports on the pending read, and the compared value is
the data of the third, which reports on DP_READ_CSW. -/
theorem checkedReadReturnsThePendingRead : Obligations.CheckedReadReturnsThePendingRead := by
  intro s t target pending past hq hf dpacc pendingRead read pipe h unfaulted
  have params : s.initPins.params = s.params := initPins_params s
  obtain ⟨acks, value, csw⟩ := exec_value hq rfl (.checkedRead (by simp [hq]) params) h unfaulted
  have access : ∀ x ∈ checkedReadRequests s.params, x.ir ≠ s.params.dapIrAbort := by
    simp [checkedReadRequests, dpacc]
  rw [value, ← csw]
  constructor
  · exact answer_of_acksOk (pre := []) params access pipe acks rfl pendingRead
  · have third := answer_of_acksOk (pre := (checkedReadRequests s.params).take 2) (older := _ :: pending :: past) params
      access pipe acks rfl read
    rw [State.cswRead, params]
    exact third.symm

end Sys2Proof.Machine
end

section
/-! The command words (30_encoding.md R80 to R89): a word is its six fields, `commandWord` puts five of them at their
places and leaves RSV zero, and a command's used bits are whole fields. Decoding and encoding agree field by field. -/

namespace Sys2Proof

open Machine

/-! ## The fields of a word -/

/-- The bits of a command word, each field at its place (R80). -/
theorem commandWord_getLsbD (opc : BitVec 5) (nbits : BitVec 6) (irCode : BitVec 4) (op3 : BitVec 3) (last : Bool)
    (j : Nat) : (commandWord opc nbits irCode op3 last).getLsbD j =
      ((placed opc 0).getLsbD j || (placed nbits 5).getLsbD j || (placed irCode 11).getLsbD j ||
        (placed op3 15).getLsbD j || (placed (BitVec.ofBool last) 18).getLsbD j) := by
  simp only [commandWord, BitVec.getLsbD_or]

/-- Every field reads back from where `commandWord` puts it, and RSV is zero (R80). -/
@[simp] theorem commandWord_fields (opc : BitVec 5) (nbits : BitVec 6) (irCode : BitVec 4) (op3 : BitVec 3)
    (last : Bool) : opcField (commandWord opc nbits irCode op3 last) = opc ∧
      nbitsField (commandWord opc nbits irCode op3 last) = nbits ∧
      irCodeField (commandWord opc nbits irCode op3 last) = irCode ∧
      op3Field (commandWord opc nbits irCode op3 last) = op3 ∧
      lastField (commandWord opc nbits irCode op3 last) = last ∧
      rsvField (commandWord opc nbits irCode op3 last) = 0 := by
  refine ⟨?_, ?_, ?_, ?_, ?_, ?_⟩
  case refine_5 =>
    rw [lastField, commandWord_getLsbD]
    simp (disch := omega) [placed_getLsbD_from, -BitVec.getLsbD_eq_getElem]
  all_goals
    apply BitVec.eq_of_getLsbD_eq
    intro i hi
    simp only [opcField, nbitsField, irCodeField, op3Field, rsvField, BitVec.getLsbD_extractLsb', commandWord_getLsbD]
    simp (disch := omega) [placed_getLsbD_from, placed_getLsbD_below, hi, -BitVec.getLsbD_eq_getElem,
      BitVec.getLsbD_of_ge]

theorem getLsbD_eq_of_extractLsb'_eq {v w : Word} {lo n j : Nat} (h : v.extractLsb' lo n = w.extractLsb' lo n)
    (hlo : lo ≤ j) (hj : j < lo + n) : v.getLsbD j = w.getLsbD j := by
  have bit := congrArg (·.getLsbD (j - lo)) h
  have inField : j - lo < n := by omega
  simpa only [BitVec.getLsbD_extractLsb', inField, decide_true, Bool.true_and, Nat.add_sub_cancel' hlo] using bit

/-- A word is its six fields (R80). -/
theorem word_eq_iff_fields {v w : Word} :
    v = w ↔ rsvField v = rsvField w ∧ opcField v = opcField w ∧ nbitsField v = nbitsField w ∧
      irCodeField v = irCodeField w ∧ op3Field v = op3Field w ∧ lastField v = lastField w := by
  refine ⟨fun h => by simp [h], fun ⟨rsv, opc, nbits, irCode, op3, last⟩ => BitVec.eq_of_getLsbD_eq fun j hj => ?_⟩
  rcases (by omega : j < 5 ∨ (5 ≤ j ∧ j < 11) ∨ (11 ≤ j ∧ j < 15) ∨ (15 ≤ j ∧ j < 18) ∨ j = 18 ∨ 19 ≤ j) with
    h | ⟨hlo, h⟩ | ⟨hlo, h⟩ | ⟨hlo, h⟩ | rfl | hlo
  · exact getLsbD_eq_of_extractLsb'_eq opc (Nat.zero_le j) h
  · exact getLsbD_eq_of_extractLsb'_eq nbits hlo h
  · exact getLsbD_eq_of_extractLsb'_eq irCode hlo h
  · exact getLsbD_eq_of_extractLsb'_eq op3 hlo h
  · exact last
  · exact getLsbD_eq_of_extractLsb'_eq rsv hlo hj

/-! ## The fields a command uses -/

/-- The commands whose row of R88 uses NBITS. -/
def Instr.usesNbits : Instr → Bool
  | .shift _ _ | .scanIr _ | .scanDr _ => true
  | _ => false

/-- The commands whose row of R88 uses IRCODE. -/
def Instr.usesIrCode : Instr → Bool
  | .selectIr _ | .transact _ _ => true
  | _ => false

/-- The command whose row of R88 uses OP3. -/
def Instr.usesOp3 : Instr → Bool
  | .transact _ _ => true
  | _ => false

/-- The command whose row of R88 uses LAST. -/
def Instr.usesLast : Instr → Bool
  | .shift _ _ => true
  | _ => false

/-- The word has no reserved bit, the command's opcode, and the command's value in each field the command uses. -/
structure Instr.Matches (i : Instr) (w : Word) : Prop where
  rsv : rsvField w = 0
  opc : opcField w = opcField (encode i)
  nbits : i.usesNbits = true → nbitsField w = nbitsField (encode i)
  irCode : i.usesIrCode = true → irCodeField w = irCodeField (encode i)
  op3 : i.usesOp3 = true → op3Field w = op3Field (encode i)
  last : i.usesLast = true → lastField w = lastField (encode i)

@[simp] theorem rsvField_encode (i : Instr) : rsvField (encode i) = 0 := by
  cases i <;> simp [encode]

/-- A field the command does not use is zero in its encoding. -/
theorem encode_unused (i : Instr) :
    (i.usesNbits = false → nbitsField (encode i) = 0) ∧ (i.usesIrCode = false → irCodeField (encode i) = 0) ∧
      (i.usesOp3 = false → op3Field (encode i) = 0) ∧ (i.usesLast = false → lastField (encode i) = false) := by
  cases i <;> simp [encode, Instr.usesNbits, Instr.usesIrCode, Instr.usesOp3, Instr.usesLast]

/-- The used bits of a command are OPC and RSV and each other field wholly or not at all. -/
theorem usedBits_fields (i : Instr) :
    rsvField i.usedBits = BitVec.allOnes 13 ∧ opcField i.usedBits = BitVec.allOnes 5 ∧
      nbitsField i.usedBits = (if i.usesNbits then BitVec.allOnes 6 else 0) ∧
      irCodeField i.usedBits = (if i.usesIrCode then BitVec.allOnes 4 else 0) ∧
      op3Field i.usedBits = (if i.usesOp3 then BitVec.allOnes 3 else 0) ∧ lastField i.usedBits = i.usesLast := by
  cases i <;> simp only [Instr.usedBits, Instr.usesNbits, Instr.usesIrCode, Instr.usesOp3, Instr.usesLast] <;>
    decide +revert

theorem and_fields (w m : Word) :
    rsvField (w &&& m) = rsvField w &&& rsvField m ∧ opcField (w &&& m) = opcField w &&& opcField m ∧
      nbitsField (w &&& m) = nbitsField w &&& nbitsField m ∧ irCodeField (w &&& m) = irCodeField w &&& irCodeField m ∧
      op3Field (w &&& m) = op3Field w &&& op3Field m ∧ lastField (w &&& m) = (lastField w && lastField m) :=
  ⟨BitVec.extractLsb'_and, BitVec.extractLsb'_and, BitVec.extractLsb'_and, BitVec.extractLsb'_and,
    BitVec.extractLsb'_and, BitVec.getLsbD_and⟩

/-- A field that is compared wholly or not at all, with one that is zero where it is not compared. -/
theorem masked_field_eq_iff {n : Nat} {v u : BitVec n} {used : Bool} (unused : used = false → u = 0) :
    v &&& (if used then BitVec.allOnes n else 0) = u ↔ (used = true → v = u) := by
  cases used with
  | true => simp
  | false => simp [unused rfl]

/-- A word agrees with a command's encoding on the used bits exactly where it matches the command. -/
theorem masked_eq_encode_iff (w : Word) (i : Instr) : w &&& i.usedBits = encode i ↔ i.Matches w := by
  obtain ⟨rsvAnd, opcAnd, nbitsAnd, irCodeAnd, op3And, lastAnd⟩ := and_fields w i.usedBits
  obtain ⟨rsvMask, opcMask, nbitsMask, irCodeMask, op3Mask, lastMask⟩ := usedBits_fields i
  obtain ⟨nbits, irCode, op3, last⟩ := encode_unused i
  have lastIff : (lastField w && i.usesLast) = lastField (encode i) ↔
      (i.usesLast = true → lastField w = lastField (encode i)) := by
    cases h : i.usesLast <;> simp [h, last]
  rw [word_eq_iff_fields, rsvAnd, opcAnd, nbitsAnd, irCodeAnd, op3And, lastAnd, rsvMask, opcMask, nbitsMask, irCodeMask,
    op3Mask, lastMask, masked_field_eq_iff nbits, masked_field_eq_iff irCode, masked_field_eq_iff op3, lastIff,
    rsvField_encode, BitVec.and_allOnes, BitVec.and_allOnes]
  exact ⟨fun ⟨a, b, c, d, e, f⟩ => ⟨a, b, c, d, e, f⟩, fun ⟨a, b, c, d, e, f⟩ => ⟨a, b, c, d, e, f⟩⟩

/-! ## Decoding -/

theorem matches_of_decode {w : Word} {i : Instr} (h : decode w = .ok i) : i.Matches w := by
  unfold decode decodeOpcode at h
  split at h
  case isFalse => cases h
  case isTrue rsv =>
    split at h
    all_goals cases h
    all_goals
      rename_i opc
      exact ⟨rsv, BitVec.eq_of_toNat_eq (by simpa [encode] using opc), by simp [Instr.usesNbits, encode],
        by simp [Instr.usesIrCode, encode], by simp [Instr.usesOp3, encode], by simp [Instr.usesLast, encode]⟩

theorem decode_of_matches {w : Word} {i : Instr} (h : i.Matches w) : decode w = .ok i := by
  obtain ⟨rsv, opc, nbits, irCode, op3, last⟩ := h
  rw [decode, if_pos rsv]
  cases i <;> simp_all [encode, decodeOpcode, Instr.usesNbits, Instr.usesIrCode, Instr.usesOp3, Instr.usesLast]

/-- A word decodes to the command it matches (R82 check 1, R88). -/
theorem decode_eq_ok_iff (w : Word) (i : Instr) : decode w = .ok i ↔ i.Matches w :=
  ⟨matches_of_decode, decode_of_matches⟩

/-- Settles O1: an encoding matches its command. -/
theorem decodeOfEncode : Obligations.DecodeOfEncode := fun i =>
  decode_of_matches ⟨rsvField_encode i, rfl, fun _ => rfl, fun _ => rfl, fun _ => rfl, fun _ => rfl⟩

/-- Settles O2: both sides say that the word matches the command. -/
theorem unusedFieldsIgnored : Obligations.UnusedFieldsIgnored := fun w i =>
  (decode_eq_ok_iff w i).trans (masked_eq_encode_iff w i).symm

/-- The opcodes that `decodeOpcode` refuses are the reserved ones (R89). -/
theorem decodeOpcode_error_iff (w : Word) :
    (∃ e, decodeOpcode w = .error e) ↔ opcField w = 0 ∨ 0x1B ≤ (opcField w).toNat := by
  have zero : opcField w = 0 ↔ (opcField w).toNat = 0 := BitVec.toNat_eq
  rw [zero]
  unfold decodeOpcode
  split
  case h_27 =>
    simp only [imp_false, Except.error.injEq, exists_eq', true_iff] at *
    omega
  all_goals simp_all

/-- Settles O3: a reserved bit is refused before the opcode is looked at, and of the rest the reserved opcodes are. -/
theorem reservedWordsRejected : Obligations.ReservedWordsRejected := by
  intro w
  by_cases rsv : rsvField w = 0
  · have clear : ¬ w.extractLsb' 19 13 ≠ 0 := not_not.mpr rsv
    rw [decode, if_pos rsv, decodeOpcode_error_iff, or_iff_right clear]
    rfl
  · rw [decode, if_neg rsv]
    exact iff_of_true ⟨_, rfl⟩ (.inl rsv)

/-- Settles O4: the words are computed, and each decodes to its command because it is that command's encoding. -/
theorem workedExampleWords : Obligations.WorkedExampleWords := by
  intro e he
  have word : encode e.1 = e.2 := by
    revert e
    decide
  exact ⟨word, word ▸ decodeOfEncode e.1⟩

end Sys2Proof
end

section
/-! From host events to commands (30_encoding.md R82, R99): a line of assembly writes its operands and runs its command,
and a word that is no command faults; the commands that fail their operand check, the eleven named transactions (R92),
and the operands a command does not read (R88). -/

namespace Sys2Proof.Machine

/-! ## Assembly lines and reserved words -/

theorem run_next {s t : State} (h : step s = .next t) (k : Nat) :
    Host.Core.run core (k + 1) s = Host.Core.run core k t := by
  have next : core.step s = .next t := h
  simp only [Host.Core.run, next]

theorem run_one (s : State) : Host.Core.run core 1 s = step s := by
  simp only [Host.Core.run]
  cases h : core.step s <;> exact h.symm

/-- The write of an operand register that a line makes where its command takes the operand (R99). -/
def operandWrite (p : Params) (taken : Bool) (offset v : Word) : List HostEvent :=
  if taken then [idleWrite p offset v] else []

theorem hostEvents_eq (p : Params) (l : Line) :
    l.hostEvents p = operandWrite p (usesArg0 l.command) 0x04 l.operand0 ++
      (operandWrite p (usesArg1 l.command) 0x08 l.operand1 ++ [cmdWrite p (encode l.command)]) :=
  List.append_assoc ..

section OperandWrites

variable {s : State} {taken : Bool} {v : Word} {es : List HostEvent}

/-- An operand write is one step where the operand is taken, and none where it is not. -/
theorem run_operandWrite {offset : Word} (hp : s.params.inRange = true)
    (hs : s.host = operandWrite s.params taken offset v ++ es) (whole : offset.extractLsb' 0 2 = 0)
    (notCmd : offset ≠ 0) (k : Nat) :
    Host.Core.run core ((operandWrite s.params taken offset v).length + k) s = Host.Core.run core k
      (if taken then writeRegister offset v { s with host := es } else { s with host := es }) := by
  cases taken with
  | true =>
    have write : s.host = ⟨.whenIdle, .access (.write .word (s.params.blockBase + offset) v)⟩ :: es := hs
    exact (congrArg (Host.Core.run core · s) (Nat.add_comm 1 k)).trans (run_next (step_write hp write whole notCmd) k)
  | false =>
    obtain rfl : s.host = es := hs
    exact congrArg (Host.Core.run core · s) (Nat.zero_add k)

theorem run_arg0Write (hp : s.params.inRange = true) (hs : s.host = operandWrite s.params taken 0x04 v ++ es)
    (k : Nat) : Host.Core.run core ((operandWrite s.params taken 0x04 v).length + k) s =
      Host.Core.run core k { s with host := es, arg0 := if taken then v else s.arg0 } := by
  rw [run_operandWrite hp hs rfl (by decide)]
  cases taken <;> rfl

theorem run_arg1Write (hp : s.params.inRange = true) (hs : s.host = operandWrite s.params taken 0x08 v ++ es)
    (k : Nat) : Host.Core.run core ((operandWrite s.params taken 0x08 v).length + k) s =
      Host.Core.run core k { s with host := es, arg1 := if taken then v else s.arg1 } := by
  rw [run_operandWrite hp hs rfl (by decide)]
  cases taken <;> rfl

end OperandWrites

/-- Settles O6: the operand writes the line makes, one step each, and then the command (R99). -/
theorem assembledLineRuns : Obligations.AssembledLineRuns := by
  intro s l rest hp hs hb hf hq
  have takes1 : usesArg1 l.command = true ↔ l.command = .apWrite := beq_iff_eq
  rw [hostEvents_eq, List.append_assoc, List.append_assoc] at hs
  rw [hostEvents_eq, List.length_append, run_arg0Write hp hs, List.length_append]
  let written0 : State := { s with
    host := operandWrite s.params (usesArg1 l.command) 0x08 l.operand1 ++ (cmdWrite s.params (encode l.command) :: rest)
    arg0 := if usesArg0 l.command then l.operand0 else s.arg0 }
  refine (run_arg1Write (s := written0) hp rfl 1).trans ((run_one _).trans ?_)
  simp only [takes1]
  exact stepRunsTheDecodedCommand _ _ _ rest hp rfl hb hf hq (decodeOfEncode l.command)

/-- Settles O7: the word is accepted, nothing lands, and the decoder refuses it. -/
theorem reservedWordFaults : Obligations.ReservedWordFaults := by
  intro s w rest hp hs hb hf hq reserved
  obtain ⟨e, refused⟩ := (reservedWordsRejected w).mpr reserved
  have slot := hostSlot_quiet (s := State.accepted { s with host := rest }) hq
  calc step s
      = hostEvent (.access (.write .word s.params.blockBase w)) { s with host := rest } := step_event hp hs
    _ = issueCommand w { s with host := rest } := hostEvent_cmd (s := { s with host := rest }) hb hf w
    _ = .next (takeFault .illegalCommand w (State.accepted { s with host := rest })) := by
      simp only [issueCommand, slot, refused]
    _ = _ := by simp only [takeFault, State.accepted, hb]

/-! ## Operands out of range -/

theorem isAccessIr_eq_false {p : Params} {code : BitVec 4} (abort : code ≠ p.dapIrAbort) (dpacc : code ≠ p.dapIrDpacc)
    (apacc : code ≠ p.dapIrApacc) : p.isAccessIr code = false := by
  simp [Params.isAccessIr, abort, dpacc, apacc]

/-- Settles O31: each of the five commands fails its operand check with the fault of its field. -/
theorem operandsOutOfRange : Obligations.OperandsOutOfRange := by
  intro s nbits last irCode op3
  refine ⟨fun long i hi => ?_, fun abort dpacc apacc i hi => ?_⟩
  · have check : operandFault s.params i = some (.nbitsRange, nbits.setWidth 32) := by
      simp only [List.mem_cons, List.not_mem_nil, or_false] at hi
      rcases hi with rfl | rfl | rfl <;> exact if_neg (Nat.not_le.mpr long)
    exact exec_rejected check
  · have check : operandFault s.params i = some (.badIrCode, irCode.setWidth 32) := by
      simp only [List.mem_cons, List.not_mem_nil, or_false] at hi
      rcases hi with rfl | rfl <;> exact if_neg (by simp [isAccessIr_eq_false abort dpacc apacc])
    exact exec_rejected check

/-! ## The eleven named commands -/

@[simp] theorem selectPulses_initPins (s : State) (code : BitVec 4) :
    s.initPins.selectPulses code = s.selectPulses code := by
  simp [State.selectPulses, State.holdsIr]

@[simp] theorem ackOk_initPins (s : State) (r : Request) : s.initPins.ackOk r = s.ackOk r := by
  simp [State.ackOk, State.ackOf]

@[simp] theorem dataOf_initPins (s : State) (r : Request) : s.initPins.dataOf r = s.dataOf r := by
  simp [State.dataOf]

/-- A command that is one transaction, with an OK ack: RESULT is the data captured (R181, R184). -/
theorem exec_transact_ok {s : State} {i : Instr} {r : Request} (hq : s.quiet = true) (wf : i.wellFormed s.params = true)
    (h : requestsOf s i = some [r]) (ok : s.ackOk r = true) :
    exec i s = .next { s.initPins.transacted r with result := s.dataOf r, busy := false } := by
  rw [exec_transact hq wf h, ackOk_initPins, if_pos ok, dataOf_initPins]
  rfl

/-- Settles O35: each row of R92 is the command's one request, and no named command has an operand field to check. -/
theorem namedCommands : Obligations.NamedCommands := by
  intro s hq e he ok
  have row : e.1.wellFormed s.params = true ∧ requestsOf s e.1 = some [e.2] := by
    simp only [List.mem_cons, List.not_mem_nil, or_false] at he
    rcases he with rfl | rfl | rfl | rfl | rfl | rfl | rfl | rfl | rfl | rfl | rfl <;> exact ⟨rfl, rfl⟩
  obtain ⟨wf, request⟩ := row
  exact exec_transact_ok hq wf request ok

/-! ## Operands a command does not read -/

/-- The state with other latched operands. -/
def State.withOperands (x y : Word) (s : State) : State := { s with a0 := x, a1 := y }

theorem bodyOf_withOperands {i : Instr} {s : State} {x y : Word} (h0 : usesArg0 i = true → x = s.a0)
    (h1 : i = .apWrite → y = s.a1) : bodyOf (s.withOperands x y) i = bodyOf s i := by
  cases i with
  | apWrite =>
    obtain rfl := h0 rfl
    obtain rfl := h1 rfl
    rfl
  | runIdle | shift | scanIr | scanDr | transact | dpWriteCsw | dpWriteSelect | apWriteCsw | apWriteAddr | apWriteData
  | apRead =>
    obtain rfl := h0 rfl
    rfl
  | _ => rfl

/-- A part of a quiet command that runs to its end, reads no latched operand and writes none. -/
theorem Ignores.operands_of_run {x y : Word} {p : Params} {α : Type} {m : Proc α} {g : State → α} {f : State → State}
    (run : ∀ s, s.quiet = true → m s = .ok (g s) (f s)) (value : ∀ s, g (s.withOperands x y) = g s)
    (comm : ∀ s, f (s.withOperands x y) = (f s).withOperands x y) (host : ∀ s, (f s).host = s.host)
    (params : ∀ s, (f s).params = s.params) : Ignores (·.quiet = true) (State.withOperands x y) p m where
  run s hq _ := by
    rw [run s hq, run (s.withOperands x y) hq, value, comm, mapState_ok]
  keeps s a t hq hp h := by
    cases (run s hq).symm.trans h
    exact ⟨(quiet_of_host_eq (host s)).trans hq, (params s).trans hp⟩

theorem trstPulse_quiet {s : State} (hq : s.quiet = true) :
    trstPulse s = .ok () ((s.drive .trst false).drive .trst true) := by
  unfold trstPulse
  rw [proc_bind_ok (hostSlot_quiet hq), proc_bind_ok (setPin_run ..), proc_bind_ok (hostSlot_quiet (by simp [hq])),
    setPin_run]

/-- A command reads its operands before its procedure starts: no part of the procedure reads or writes the latches. -/
theorem Clocked.ignores_operands {x y : Word} {p : Params} {α : Type} {m : Proc α} (h : Clocked p m) :
    Ignores (·.quiet = true) (State.withOperands x y) p m := by
  induction h with
  | pure a =>
    exact .operands_of_run (fun s _ => proc_pure a s) (fun _ => rfl) (fun _ => rfl) (fun _ => rfl) (fun _ => rfl)
  | bind _ _ hm hf => exact hm.bind hf
  | look _ hf =>
    constructor
    · rintro s hq rfl
      exact (hf s.protocol).run s hq rfl
    · rintro s a t hq rfl run
      exact (hf s.protocol).keeps s a t hq rfl run
  | pulse tms tdi =>
    exact .operands_of_run (fun s hq => pulse_quiet hq tms tdi) (fun _ => rfl) (fun _ => rfl) (fun _ => rfl)
      (fun _ => rfl)
  | trst =>
    exact .operands_of_run (fun s hq => trstPulse_quiet hq) (fun _ => rfl) (fun _ => rfl) (fun _ => rfl) (fun _ => rfl)
  | record _ =>
    exact .operands_of_run (fun s _ => proc_modify _ s) (fun _ => rfl) (fun _ => rfl) (fun _ => rfl) (fun _ => rfl)
  | raise v _ =>
    refine ⟨fun _ _ _ => rfl, ?_⟩
    rintro s a t - - ⟨⟩

/-- Settles O53: the command's procedure is the same for both operands, and ignores the latches as it runs. -/
theorem unusedOperandsIgnored : Obligations.UnusedOperandsIgnored := by
  intro i s t x y hq h h0 h1
  change exec i (s.withOperands x y) = .next (t.withOperands x y)
  cases check : operandFault s.params i with
  | some bad =>
    obtain ⟨c, v⟩ := bad
    rw [exec_rejected check] at h
    cases h
    exact exec_rejected (s := s.withOperands x y) check
  | none =>
    have completion (r : Option Word) : Ignores (·.quiet = true) (State.withOperands x y) s.params
        (hostSlot >>= fun _ => modify (State.complete r)) :=
      .operands_of_run (g := fun _ => ()) (f := State.complete r)
        (fun s hq => (proc_bind_ok (hostSlot_quiet hq)).trans (proc_modify ..))
        (fun _ => rfl) (fun _ => rfl) (fun _ => rfl) (fun _ => rfl)
    have cycle := (Sequenced.bodyOf check).clocked.ignores_operands (x := x) (y := y) |>.bind completion
    have init : (s.withOperands x y).initPins = s.initPins.withOperands x y := initPins_comm rfl rfl
    rw [exec_accepted check] at h
    cases h
    rw [exec_accepted (s := s.withOperands x y) check, bodyOf_withOperands h0 h1, init,
      cycle.run _ (by simp [hq]) (by simp), stateOf_mapState]

end Sys2Proof.Machine
end

section
/-! The TAP Sequencer commands (40_tap_sequencer.md R121 to R132): the pulse, and the whole next state of each of the eight
commands from any quiet state. -/

namespace Sys2Proof.Machine

/-- Settles O20: the five events of `afterPulse`, written out. -/
theorem TapSequencer.pulseEvents : Obligations.PulseEvents := by
  intro s tms tdi hq
  rw [pulse_quiet hq, State.afterPulse, nextTdo_eq_tdoAt]
  simp only [List.isEmpty_iff]
  rfl

/-! ## What each command does, from any quiet state -/

/-- The TRST events of a RESET (R123). -/
theorem drive_trst_low_high (s : State) : (s.drive .trst false).drive .trst true =
    { s with pinTrst := true, trace := .drive .trst true :: .drive .trst false :: s.trace } := rfl

theorem tapReset_quiet {s : State} (hq : s.quiet = true) :
    tapReset s = .ok () ((State.pulsed
      { s with pinTrst := true, trace := .drive .trst true :: .drive .trst false :: s.trace }
      [(true, false), (true, false), (true, false), (true, false), (true, false)]).inTap .reset .shift).forgetIr := by
  rw [tapReset_eq, proc_bind_ok (trstPulse_quiet hq), proc_bind_ok (walk_quiet (by simp [hq]) _), proc_modify,
    drive_trst_low_high]
  rfl

theorem runIdle_at {s : State} (hq : s.quiet = true) (n : Nat) :
    runIdle n s = .ok ()
      (s.at (s.leavePulses ++ List.replicate n (false, false)) .idle .shift s.irValid s.irCache) := by
  rw [runIdle_quiet hq, State.idled, self_at]
  rfl

/-- A command whose operands are in range is its procedure in the command cycle (R82, R120). -/
theorem exec_wellFormed (i : Instr) {s : State} (wf : i.wellFormed s.params = true) :
    exec i s = runCommand none (bodyOf s i) s := by
  rw [exec_eq, (operandFault_eq_none_iff _ i).mpr wf]

section Commands

variable {s : State} (hq : s.quiet = true)
include hq

theorem initPins_quiet : s.initPins.quiet = true := (quiet_initPins s).trans hq

/-- COMMIT (R124). -/
theorem exec_commit :
    exec .commit s = .next ((s.initPins.at s.leavePulses .idle .shift s.irValid s.irCache).complete none) := by
  have run := commit_at (initPins_quiet hq)
  rw [initPins_leavePulses, initPins_irValid, initPins_irCache] at run
  exact runCommand_unit run (by simp [hq])

/-- RUN_IDLE (R126). -/
theorem exec_runIdle :
    exec .runIdle s = .next ((s.initPins.at (s.leavePulses ++ List.replicate s.a0.toNat (false, false)) .idle .shift
      s.irValid s.irCache).complete none) := by
  have run := runIdle_at (initPins_quiet hq) s.a0.toNat
  rw [initPins_leavePulses, initPins_irValid, initPins_irCache] at run
  exact runCommand_unit run (by simp [hq])

/-- The two ENTER commands (R127 to R129). -/
theorem runCommand_enter (k : ScanKind) :
    runCommand none (do enter k; return none) s = .next ((s.initPins.at (s.leavePulses ++ enterPulses k) .shifting
      .shift (irValidAfter k s.irValid) s.irCache).complete none) := by
  have run := enter_at (initPins_quiet hq) k
  rw [initPins_leavePulses, initPins_irValid, initPins_irCache] at run
  exact runCommand_unit run (by simp [hq])

/-- The two SCAN commands, whose operands are in range (R131, R132). -/
theorem runCommand_scan (k : ScanKind) (n : Nat) (out : Word) :
    runCommand none (do let r ← scan k n out; return some r) s = .next
      ((s.initPins.at (s.leavePulses ++ scanPulses k n out) .idle .shift (irValidAfter k s.irValid) s.irCache).complete
        (some (s.captured (s.leavePulses.length + (enterPulses k).length) n))) := by
  have run := scan_quiet (initPins_quiet hq) k n out
  rw [scanned_at, State.scanValue, initPins_leavePulses, initPins_irValid, initPins_irCache, captured_initPins] at run
  exact runCommand_value run (by simp [hq])

/-- SHIFT in an open scan (R130). -/
theorem exec_shift {nbits : BitVec 6} (last : Bool) (short : nbits.toNat ≤ 32) (inScan : s.tapState = .shifting)
    (phase : s.shiftPhase = .shift) :
    exec (.shift nbits last) s = .next
      ((s.initPins.at (dataPulses s.a0 last nbits.toNat) .shifting (phaseAfter nbits.toNat last) s.irValid
        s.irCache).complete (some (s.captured 0 nbits.toNat))) := by
  have run := shift_at (initPins_quiet hq) (by simp [inScan]) (by simp [phase]) nbits.toNat s.a0 last
  rw [initPins_irValid, initPins_irCache, captured_initPins] at run
  rw [exec_wellFormed (.shift nbits last) (decide_eq_true short)]
  exact runCommand_value run (by simp [hq])

end Commands

/-- A SHIFT that its procedure refuses (R130). -/
theorem exec_shift_refused {s : State} {nbits : BitVec 6} {last : Bool} {c : FaultCode} {v : Word}
    (short : nbits.toNat ≤ 32)
    (run : shift nbits.toNat s.a0 last s.initPins = .error .faulted (takeFault c v s.initPins)) :
    exec (.shift nbits last) s = .next (takeFault c v s.initPins) := by
  rw [exec_wellFormed (.shift nbits last) (decide_eq_true short)]
  exact runCommand_error run

/-! ## The command words of the shifts and scans -/

/-- A word of an opcode, NBITS and LAST, as the spec writes it (R80). -/
theorem commandWord_nbits_last {opc : BitVec 5} {low : Word} (h : opc.setWidth 32 = low) (nbits : BitVec 6)
    (last : Bool) : commandWord opc nbits 0 0 last =
      low ||| nbits.setWidth 32 <<< 5 ||| (BitVec.ofBool last).setWidth 32 <<< 18 := by
  simp [commandWord, placed, h]

/-- A word of an opcode, NBITS and LAST is the command whose encoding has that opcode and NBITS, and that LAST where the
command uses it (R81). -/
theorem decode_nbits_last {i : Instr} {opc : BitVec 5} {low : Word} {nbits : BitVec 6} {last : Bool}
    (h : opc.setWidth 32 = low) (word : encode i = commandWord opc nbits 0 0 (i.usesLast && last)) :
    decode (low ||| nbits.setWidth 32 <<< 5 ||| (BitVec.ofBool last).setWidth 32 <<< 18) = .ok i := by
  rw [← commandWord_nbits_last h]
  exact decode_of_matches
    ⟨by simp, by simp [word], by simp [word], by simp [word], by simp [word], fun used => by simp [word, used]⟩

/-! ## The obligations about one command -/

/-- Settles O21: the two TRST events, five pulses, and the record of Test-Logic-Reset. -/
theorem resetCommand : Obligations.ResetCommand := by
  refine ⟨decodeOfEncode .reset, fun s hq => ?_⟩
  exact runCommand_unit (tapReset_quiet (initPins_quiet hq)) ((quiet_of_host_eq (by simp)).trans hq)

/-- Settles O22: the four cases are those of `leavePulses`. -/
theorem commitCommand : Obligations.CommitCommand := by
  refine ⟨decodeOfEncode .commit, fun s hq =>
    ⟨s.leavePulses, ?_, fun tap => ?_, fun tap => ?_, fun tap phase => ?_, fun tap phase => ?_⟩⟩
  · rw [exec_commit hq]
    simp [State.at, State.complete]
  all_goals simp only [State.leavePulses, *]

/-- Settles O23: the state COMMIT leaves is idle and its pins initialised, so a second one does nothing at all. -/
theorem commitIdempotent : Obligations.CommitIdempotent := by
  intro s hq
  refine ⟨_, exec_commit hq, ?_, rfl, fun idle => ?_, rfl, rfl, by simp [State.at]⟩
  · rw [exec_commit ((quiet_of_host_eq (by simp [State.at])).trans hq), initPins_done (by simp [State.at])]
    rfl
  · simp only [State.leavePulses, idle]
    rfl

/-- Settles O24: no cycles add no pulse to COMMIT's. -/
theorem runIdleCommand : Obligations.RunIdleCommand := by
  refine ⟨decodeOfEncode .runIdle, fun s hq => ⟨?_, fun noCycles => ?_⟩⟩
  · rw [exec_runIdle hq]
    simp [State.at, State.complete]
  · rw [exec_runIdle hq, exec_commit hq, noCycles]
    simp

/-- Settles O25: both commands are one procedure; Enter(DR) keeps the cache it finds. -/
theorem enterCommands : Obligations.EnterCommands := by
  refine ⟨decodeOfEncode .enterIr, decodeOfEncode .enterDr, fun s hq => ⟨?_, ?_⟩⟩
  · refine (runCommand_enter hq .ir).trans ?_
    simp [State.at, State.complete, irValidAfter, enterPulses]
  · refine (runCommand_enter hq .dr).trans ?_
    simp [State.at, State.complete, irValidAfter, enterPulses]

/-- Settles O26: the operand check, the open scan, and the two misuses that `shift_misused` tells apart. -/
theorem shiftCommand : Obligations.ShiftCommand := by
  intro s nbits last hq
  obtain ⟨outside, afterLast⟩ := shift_misused s.initPins nbits.toNat s.a0 last
  refine ⟨decode_nbits_last (opc := 0x06) rfl rfl, ?_, ?_, ?_, ?_⟩
  · intro long
    exact (operandsOutOfRange s nbits last 0 0).1 long _ (by simp)
  · intro short tap phase
    rw [exec_shift hq last short tap phase]
    simp [State.at, State.complete, phaseAfter, Nat.one_le_iff_ne_zero, tap]
  · intro short tap
    refine (exec_shift_refused short (outside (by simpa using tap))).trans ?_
    have number : s.tapState.bits.setWidth 32 = if s.tapState = .reset then (0 : Word) else 1 := by
      rw [tapState_bits_eq]
      cases h : s.tapState <;> simp_all
    rw [initPins_tapState, number]
    rfl
  · intro short tap phase
    exact exec_shift_refused short (afterLast (by simpa using tap) (by simpa using phase))

/-- Settles O28: both commands are one procedure; a DR scan keeps the cache it finds. -/
theorem scanCommands : Obligations.ScanCommands := by
  intro s nbits last hq
  refine ⟨decode_nbits_last (opc := 0x07) rfl rfl, decode_nbits_last (opc := 0x08) rfl rfl, ?_, ?_, ?_⟩
  · intro short
    rw [exec_wellFormed (.scanIr nbits) (decide_eq_true short)]
    refine (runCommand_scan hq .ir nbits.toNat s.a0).trans ?_
    simp [State.at, State.complete, irValidAfter, enterPulses]
  · intro short
    rw [exec_wellFormed (.scanDr nbits) (decide_eq_true short)]
    refine (runCommand_scan hq .dr nbits.toNat s.a0).trans ?_
    simp [State.at, State.complete, irValidAfter, enterPulses]
  · intro long i hi
    exact (operandsOutOfRange s nbits last 0 0).1 long i (List.mem_cons_of_mem _ hi)

end Sys2Proof.Machine
end

section
/-! The equalities of 40_tap_sequencer.md R134: a scan is ENTER, SHIFT.L and COMMIT, and two shifts of an open scan are one
shift of the summed length. -/

namespace Sys2Proof.Machine

/-! ## Commands one after the other -/

/-- Pulses write neither RESULT nor busy, so they pass through a completion. -/
theorem complete_pulsed (s : State) (r : Option Word) (qs : List Pulse) :
    (s.complete r).pulsed qs = (s.pulsed qs).complete r := by
  induction qs generalizing s with
  | nil => rfl
  | cons q qs ih => exact ih (s.afterPulse q)

theorem complete_at (s : State) (r : Option Word) (qs : List Pulse) (t : TapState) (ph : ShiftPhase) (v : Bool)
    (c : BitVec 4) : (s.complete r).at qs t ph v c = (s.at qs t ph v c).complete r := by
  rw [State.at, complete_pulsed]
  rfl

section AfterCommand

variable {s : State} (hq : s.quiet = true) (done : s.pinInitDone = true) (r : Option Word)
include hq done

/-- A COMMIT on a state another command has left makes no initialise request and keeps that command's RESULT. -/
theorem exec_commit_complete :
    exec .commit (s.complete r) = .next ((s.at s.leavePulses .idle .shift s.irValid s.irCache).complete r) := by
  rw [exec_commit (s := s.complete r) hq, initPins_done (s := s.complete r) done, complete_at]
  rfl

/-- A SHIFT on an open scan another command has left: its own capture replaces that command's RESULT. -/
theorem exec_shift_complete {nbits : BitVec 6} (last : Bool) (short : nbits.toNat ≤ 32)
    (inScan : s.tapState = .shifting) (phase : s.shiftPhase = .shift) :
    exec (.shift nbits last) (s.complete r) = .next ((s.at (dataPulses s.a0 last nbits.toNat) .shifting
      (phaseAfter nbits.toNat last) s.irValid s.irCache).complete (some (s.captured 0 nbits.toNat))) := by
  rw [exec_shift (s := s.complete r) hq last short inScan phase, initPins_done (s := s.complete r) done, complete_at]
  rfl

end AfterCommand

/-- ENTER, SHIFT.L and COMMIT leave what the scan of their operand leaves (R134). -/
theorem enter_shift_commit {s t u v : State} {k : ScanKind} {nbits : BitVec 6} (hq : s.quiet = true)
    (pos : 1 ≤ nbits.toNat) (short : nbits.toNat ≤ 32)
    (entered : runCommand none (do enter k; return none) s = .next t) (shifted : exec (.shift nbits true) t = .next u)
    (committed : exec .commit u = .next v) :
    runCommand none (do let r ← scan k nbits.toNat s.a0; return some r) s = .next v := by
  rw [runCommand_enter hq k] at entered
  cases entered
  rw [exec_shift_complete (by simp [hq]) (by simp [State.at]) none true short rfl rfl, at_at, at_captured] at shifted
  cases shifted
  rw [exec_commit_complete (by simp [hq]) (by simp [State.at]), at_at, leavePulses_at] at committed
  cases committed
  rw [runCommand_scan hq]
  have nonempty : nbits.toNat ≠ 0 := by omega
  simp [phaseAfter, scanPulses, nonempty, State.at]

/-- Settles O29: Scan is Enter, Shift with LAST and Commit, and the completions in between write nothing that the next
command reads. -/
theorem scanIsEnterShiftCommit : Obligations.ScanIsEnterShiftCommit := by
  intro s t u v nbits hq pos short
  refine ⟨fun entered shifted committed => ?_, fun entered shifted committed => ?_⟩
  · rw [exec_wellFormed (.scanDr nbits) (decide_eq_true short)]
    exact enter_shift_commit (k := .dr) hq pos short entered shifted committed
  · rw [exec_wellFormed (.scanIr nbits) (decide_eq_true short)]
    exact enter_shift_commit (k := .ir) hq pos short entered shifted committed

/-! ## One shift in two -/

/-- The target's answers to come and the record of pin events. -/
def State.wire (s : State) : List Bool × Nat × List PinEvent := (s.tdo, s.draws, s.trace)

/-- What pulses do at the pins depends on no state of the block. -/
theorem pulsed_wire_congr {s t : State} (h : t.wire = s.wire) (qs : List Pulse) :
    (t.pulsed qs).wire = (s.pulsed qs).wire := by
  induction qs generalizing s t with
  | nil => exact h
  | cons q qs ih =>
    obtain ⟨tdo, draws, trace⟩ : t.tdo = s.tdo ∧ t.draws = s.draws ∧ t.trace = s.trace := by simpa [State.wire] using h
    exact ih (by simp [State.wire, State.nextTdo, tdo, draws, trace])

/-- The low `m` bits of one operand below another operand (R134). -/
def joinedBits (lo hi : Word) (m : Nat) : Word := (lo &&& (BitVec.allOnes 32 >>> (32 - m))) ||| (hi <<< m)

theorem joinedBits_getLsbD (lo hi : Word) {m j : Nat} (hm : m ≤ 32) (hj : j < 32) :
    (joinedBits lo hi m).getLsbD j = if j < m then lo.getLsbD j else hi.getLsbD (j - m) := by
  have mask : (BitVec.allOnes 32).getLsbD (32 - m + j) = decide (j < m) := by
    rw [BitVec.getLsbD_allOnes]
    exact decide_eq_decide.mpr (by omega)
  rw [joinedBits, BitVec.getLsbD_or, BitVec.getLsbD_and, BitVec.getLsbD_ushiftRight, mask, BitVec.getLsbD_shiftLeft]
  split <;> simp [*, -BitVec.getLsbD_eq_getElem]

/-- The data pulses of two shifts, LAST on the second, are those of one shift of the joined operand (R134). -/
theorem dataPulses_joined (lo hi : Word) {m n : Nat} (hn : 1 ≤ n) (hmn : m + n ≤ 32) :
    dataPulses (joinedBits lo hi m) true (m + n) = dataPulses lo false m ++ dataPulses hi true n := by
  simp only [dataPulses, List.range_add, List.map_append, List.map_map]
  congr 1
  · refine List.map_congr_left fun i mem => ?_
    have below : i < m := List.mem_range.mp mem
    have notLast : i + 1 ≠ m + n := by omega
    simp [joinedBits_getLsbD lo hi (by omega : m ≤ 32) (by omega : i < 32), below, notLast]
  · refine List.map_congr_left fun j mem => ?_
    have below : j < n := List.mem_range.mp mem
    simp [joinedBits_getLsbD lo hi (by omega : m ≤ 32) (by omega : m + j < 32), Nat.add_assoc]

/-- What a SHIFT of a given operand in an open scan leaves at the pins and of the TAP state (R130). -/
theorem exec_shift_wire {s t : State} {nbits : BitVec 6} {last : Bool} {out : Word} (hq : s.quiet = true)
    (short : nbits.toNat ≤ 32) (inScan : s.tapState = .shifting) (phase : s.shiftPhase = .shift)
    (h : exec (.shift nbits last) { s with a0 := out } = .next t) :
    t.wire = (s.initPins.pulsed (dataPulses out last nbits.toNat)).wire ∧ t.tapState = .shifting ∧
      t.shiftPhase = phaseAfter nbits.toNat last ∧ t.quiet = true ∧ t.initPins = t := by
  rw [exec_shift (s := { s with a0 := out }) hq last short inScan phase] at h
  cases h
  refine ⟨?_, rfl, rfl, ?_, initPins_done (by simp [State.at])⟩
  · exact pulsed_wire_congr (by simp [State.wire]) _
  · exact (quiet_of_host_eq (by simp [State.at])).trans hq

/-- Settles O30: the two shifts make the data pulses of the one. -/
theorem splitShiftIsOneShift : Obligations.SplitShiftIsOneShift := by
  intro s t u v m n lo hi hq pos short inScan phase first second whole
  have total : (BitVec.ofNat 6 (m.toNat + n.toNat)).toNat = m.toNat + n.toNat := by
    rw [BitVec.toNat_ofNat]
    omega
  obtain ⟨wireT, tapT, phaseT, quietT, initT⟩ := exec_shift_wire hq (by omega) inScan phase first
  obtain ⟨wireU, tapU, phaseU, -, -⟩ := exec_shift_wire quietT (by omega) tapT phaseT second
  obtain ⟨wireV, tapV, phaseV, -, -⟩ := exec_shift_wire (out := joinedBits lo hi m.toNat) hq (by omega) inScan phase whole
  have nonempty : n.toNat ≠ 0 := by omega
  have same : v.wire = u.wire := by
    rw [wireV, wireU, initT, pulsed_wire_congr wireT, ← pulsed_append, total, dataPulses_joined lo hi pos short]
  exact ⟨congrArg (·.2.2) same, tapV.trans tapU.symm, by simp [phaseV, phaseU, phaseAfter, total, nonempty]⟩

end Sys2Proof.Machine
end

section
/-! Rules over all commands: what none of them changes (40_tap_sequencer.md R120; 60_exceptions.md R243), and the TCK
pulses of those that complete (40_tap_sequencer.md R133; 70_reset_and_hazards.md R291). -/

namespace Sys2Proof.Machine

/-! ## The frame -/

/-- A quiet command ends by completing or by taking a fault, in a state that keeps what clocking the target does not
write. -/
theorem CommandOutcome.ended {i : Instr} {s t : State} (h : CommandOutcome i s t) :
    ∃ u, u.kept = s.kept ∧ ((∃ r, t = u.complete r) ∨ ∃ c v, t = takeFault c v u) := by
  cases h with
  | rejected c v _ after => exact ⟨s, rfl, .inr ⟨c, v, after⟩⟩
  | completed r u _ _ kept after => exact ⟨u, kept, .inl ⟨r, after⟩⟩
  | faulted c v u _ _ kept after => exact ⟨u, kept, .inr ⟨c, v, after⟩⟩

/-- A quiet command leaves the block idle, with the operands and parameters it ran with. -/
theorem CommandOutcome.operands {i : Instr} {s t : State} (h : CommandOutcome i s t) :
    t.busy = false ∧ t.a0 = s.a0 ∧ t.a1 = s.a1 ∧ t.params = s.params := by
  obtain ⟨u, kept, ⟨r, rfl⟩ | ⟨c, v, rfl⟩⟩ := h.ended
  · exact ⟨rfl, (congrArg State.a0 kept :), (congrArg State.a1 kept :), (congrArg State.params kept :)⟩
  · exact ⟨rfl, (congrArg State.a0 kept :), (congrArg State.a1 kept :), (congrArg State.params kept :)⟩

/-- A quiet command only adds to the record of pin events. -/
theorem exec_trace {i : Instr} {s t : State} (hq : s.quiet = true) (h : exec i s = .next t) :
    ∃ made, t.trace = made ++ s.trace := by
  obtain ⟨first, initTrace, -⟩ := initPins_makes s
  have body (check : operandFault s.params i = none) :=
    (Sequenced.bodyOf check).clocked.lands.landing s.initPins (initPins_quiet hq) (initPins_params s)
  cases exec_outcome hq h with
  | rejected c v _ after => exact ⟨[], after ▸ rfl⟩
  | completed r u check run _ after =>
    obtain ⟨made, trace, -⟩ := body check
    rw [run, stateOf_ok, initTrace, ← List.append_assoc] at trace
    exact ⟨made ++ first, after ▸ trace⟩
  | faulted c v u check run _ _ =>
    obtain ⟨made, trace, -⟩ := body check
    rw [run, stateOf_error, initTrace, ← List.append_assoc] at trace
    exact ⟨made ++ first, trace⟩

/-- Settles O52: the host's side, the latched operands and the parameters are outside what clocking the target writes. -/
theorem commandFrame : Obligations.CommandFrame := by
  intro i s hq
  obtain ⟨t, h⟩ : ∃ t, exec i s = .next t := ⟨_, exec_eq i s⟩
  have outcome := exec_outcome hq h
  obtain ⟨busy, a0, a1, params⟩ := outcome.operands
  obtain ⟨side, host⟩ := outcome.host
  exact ⟨t, h, busy, (congrArg State.arg0 side).symm, (congrArg State.arg1 side).symm, a0, a1,
    (congrArg State.overrun side).symm, params, host, (congrArg State.responses side).symm, exec_trace hq h⟩

/-! ## The TCK pulses of a procedure that completes -/

theorem tckPulses_append (later earlier : List PinEvent) :
    tckPulses (later ++ earlier) = tckPulses earlier + tckPulses later := by
  rw [tckPulses, List.countP_append, Nat.add_comm]
  rfl

/-- A procedure run at parameters `p` that completes makes `n` TCK pulses, counted from the protocol state it found. -/
structure Counts (p : Params) {α : Type} (m : Proc α) (n : Protocol → Nat) : Prop where
  completing : ∀ s a t, s.params = p → m s = .ok a t → tckPulses t.trace = tckPulses s.trace + n s.protocol

/-- Commit's pulses from a protocol state, c(s) of R133. -/
def leaveCountOf (q : Protocol) : Nat := (commitTms q.1 q.2.1).length

theorem leaveCount_eq (s : State) : s.leaveCount = leaveCountOf s.protocol := by
  unfold State.leaveCount leaveCountOf State.protocol
  cases s.tapState <;> cases s.shiftPhase <;> rfl

/-- The pulses of a scan of `n` bits after Commit's: the enter pattern, the data, and the commit of the phase that leaves
(R133). -/
def scanCount (k : ScanKind) (n : Nat) : Nat := (enterTms k).length + n + if n = 0 then 3 else 2

/-- The pulses of a transaction: 42 where the cache holds its code, and 16 more for the IR scan of 10 bits (R291). -/
def transactionCountOf (code : BitVec 4) (q : Protocol) : Nat :=
  leaveCountOf q + if q.2.2.1 && q.2.2.2 == code then 42 else 58

/-- After a transaction the next one finds the TAP idle and the code of the first in the cache. -/
theorem transactionCountOf_after (code code' : BitVec 4) :
    transactionCountOf code (.idle, .shift, true, code') = if code' = code then 42 else 58 := by
  simp [transactionCountOf, leaveCountOf, commitTms]

theorem transactionCount_eq (s : State) (code : BitVec 4) :
    s.transactionCount code = transactionCountOf code s.protocol := by
  rw [State.transactionCount, leaveCount_eq]
  rfl

theorem transactionCountOf_add (s : State) (code : BitVec 4) (k : Nat) :
    transactionCountOf code s.protocol + k = s.leaveCount + if s.holdsIr code then 42 + k else 58 + k := by
  rw [← transactionCount_eq, State.transactionCount, Nat.add_assoc, ite_add]

/-- The lengths, counts and codes behind R291's numbers, one by one. -/
theorem defaultCounts_fields {p : Params} (h : defaultCounts p = true) :
    irChainBits p = 10 ∧ p.icepickIrLen = 6 ∧ p.checkTapIdcode = true ∧ p.routerWords.length = 2 ∧
      p.routerRunCycles = 10 ∧ p.settleCycles = 10 ∧ p.dapIrDpacc ≠ p.dapIrApacc := by
  simp only [defaultCounts, Bool.and_eq_true, beq_iff_eq, bne_iff_ne] at h
  obtain ⟨⟨⟨⟨⟨⟨dap, icepick⟩, check⟩, words⟩, cycles⟩, settle⟩, codes⟩ := h
  exact ⟨by simp [irChainBits, dap, icepick], icepick, check, words, cycles, settle, codes⟩

namespace Counts

variable {p : Params} {α β : Type}

/-- A procedure that makes no TCK event makes no pulse. -/
theorem still {m : Proc α} (h : ∀ s a t, m s = .ok a t → tckPulses t.trace = tckPulses s.trace) :
    Counts p m fun _ => 0 :=
  ⟨fun s a t _ run => h s a t run⟩

theorem pure (a : α) : Counts p (pure a : Proc α) fun _ => 0 := still (by rintro s _ t ⟨⟩; rfl)

theorem bind {m : Proc α} {f : α → Proc β} {n n' : Protocol → Nat} {g : Protocol → Protocol} (hm : Counts p m n)
    (lm : Leaves p m g) (hf : ∀ a, Counts p (f a) n') : Counts p (m >>= f) fun q => n q + n' (g q) := by
  constructor
  intro s b t hp h
  obtain ⟨a, u, hu, ht⟩ := proc_bind_eq_ok h
  obtain ⟨hup, hug⟩ := lm.completing s a u hp hu
  rw [(hf a).completing u b t hup ht, hm.completing s a u hp hu, hug, Nat.add_assoc]

theorem congr {m : Proc α} {n n' : Protocol → Nat} (h : Counts p m n) (e : ∀ q, n q = n' q) : Counts p m n' :=
  funext e ▸ h

theorem look {f : Protocol → Params → Proc α} {n : Protocol → Protocol → Nat} (hf : ∀ q, Counts p (f q p) (n q)) :
    Counts p (get >>= fun s => f s.protocol s.params) fun q => n q q := by
  constructor
  rintro s a t rfl h
  exact (hf s.protocol).completing s a t rfl h

theorem config {f : Params → Proc α} {n : Protocol → Nat} (hf : Counts p (f p) n) : Counts p (config >>= f) n :=
  look (f := fun _ p => f p) fun _ => hf

theorem record (g : Protocol → Protocol) : Counts p (modify (State.recording g)) fun _ => 0 :=
  still (by rintro s a t ⟨⟩; rfl)

theorem verify (b : Bool) (c : FaultCode) (v : Word) : Counts p (verify b c v) fun _ => 0 := by
  refine still fun s a t h => ?_
  rw [verify_run] at h
  split at h
  · cases h
    rfl
  · cases h

theorem hostSlot : Counts p hostSlot fun _ => 0 :=
  still fun s a t h => by rw [hostSlot_ok h]; rfl

theorem trst (level : Bool) : Counts p (setPin .trst level) fun _ => 0 :=
  still (by rintro s a t ⟨⟩; rfl)

theorem pulse (tms tdi : Bool) : Counts p (pulse tms tdi) fun _ => 1 := by
  have clock : Counts p (clockPins tms tdi) fun _ => 1 := ⟨by rintro s a t - ⟨⟩; exact tckPulses_append ..⟩
  exact pulse_eq tms tdi ▸ hostSlot.bind .hostSlot fun _ => clock

theorem walk (ts : List Bool) : Counts p (walk ts) fun _ => ts.length := by
  induction ts with
  | nil => exact pure ()
  | cons t ts ih => exact ((pulse t false).bind (.pulse ..) fun _ => ih).congr fun _ => Nat.add_comm ..

theorem shiftBits (out : Word) (last : Bool) (k i : Nat) : Counts p (shiftBits out last k i) fun _ => k := by
  induction k generalizing i with
  | zero => exact pure []
  | succ k ih =>
    exact ((pulse _ _).bind (.pulse ..) fun _ => (ih (i + 1)).bind (.shiftBits ..) fun _ => pure _).congr fun _ =>
      Nat.add_comm ..

theorem tapReset : Counts p tapReset fun _ => 5 := by
  rw [tapReset_eq]
  have trst : Counts p trstPulse fun _ => 0 :=
    hostSlot.bind .hostSlot fun _ => (trst false).bind (.drive ..) fun _ => hostSlot.bind .hostSlot fun _ => trst true
  have keeps : Leaves p trstPulse id :=
    Leaves.hostSlot.bind fun _ => (Leaves.drive ..).bind fun _ => Leaves.hostSlot.bind fun _ => .drive ..
  exact trst.bind keeps fun _ => (walk _).bind (.walk _) fun _ =>
    record fun q => (.reset, .shift, false, q.2.2.2)

theorem commit : Counts p commit leaveCountOf :=
  look (f := fun q _ => do Machine.walk (commitTms q.1 q.2.1); modify (State.inTap .idle .shift))
    (n := fun q _ => leaveCountOf q) fun _ => (walk _).bind (.walk _) fun _ => record fun q => (.idle, .shift, q.2.2)

theorem runIdle (n : Nat) : Counts p (runIdle n) fun q => leaveCountOf q + n :=
  (commit.bind .commit fun _ => walk _).congr fun q => by simp

theorem enter (k : ScanKind) : Counts p (enter k) fun q => leaveCountOf q + (enterTms k).length := by
  rw [enter_eq]
  exact commit.bind .commit fun _ => (walk _).bind (.walk _) fun _ => record _

theorem shift (n : Nat) (out : Word) (last : Bool) : Counts p (shift n out last) fun _ => n := by
  rw [shift_eq]
  refine (look (f := fun q _ => do
    Machine.verify (q.1 == .shifting) .shiftNotShifting (q.1.bits.setWidth 32)
    Machine.verify (q.2.1 == .shift) .shiftAfterLast 0
    let bs ← Machine.shiftBits out last n 0
    modify (State.recording fun q => (.shifting, phaseThen n last q.2.1, q.2.2))
    return assemble bs) fun _ => (verify ..).bind (.verify ..) fun _ => (verify ..).bind (.verify ..) fun _ =>
      (shiftBits ..).bind (.shiftBits ..) fun _ => (record _).bind (.record _) fun _ => pure _).congr fun _ => by simp

/-- A whole scan (R133). -/
theorem scan (k : ScanKind) (n : Nat) (out : Word) : Counts p (scan k n out) fun q => leaveCountOf q + scanCount k n := by
  refine ((enter k).bind (.enter k) fun _ => (shift n out true).bind (.shift ..) fun _ =>
    commit.bind .commit fun _ => pure _).congr fun q => ?_
  by_cases hn : n = 0
  · simp [leaveCountOf, scanCount, phaseThen, commitTms, hn, Nat.add_assoc]
  · simp [leaveCountOf, scanCount, phaseThen, commitTms, hn, Nat.add_assoc]

/-- The IR scan of SelectIR, on a cache miss alone (R180). -/
theorem selectIr (code : BitVec 4) : Counts p (selectIr code) fun q =>
    if q.2.2.1 && q.2.2.2 == code then 0 else leaveCountOf q + scanCount .ir (irChainBits p) := by
  refine look (f := fun q p => if q.2.2.1 && q.2.2.2 == code then Pure.pure () else do
    let _ ← Machine.scan .ir (irChainBits p) (irChainWord p code)
    modify (State.cacheIr code))
    (n := fun q q' => if q.2.2.1 && q.2.2.2 == code then 0 else leaveCountOf q' + scanCount .ir (irChainBits p))
    fun q => ?_
  split
  · exact pure ()
  · exact (scan ..).bind (.scan ..) fun _ => record fun q => (q.1, q.2.1, true, code)

section DefaultLengths

variable (chain : irChainBits p = 10)
include chain

theorem transact (code : BitVec 4) (op3 : BitVec 3) (arg : Word) :
    Counts p (transact code op3 arg) (transactionCountOf code) := by
  refine (config ((selectIr code).bind (.selectIr code) fun _ => (enter .dr).bind (.enter .dr) fun _ =>
    (shift ..).bind (.shift ..) fun _ => (verify ..).bind (.verify ..) fun _ => (shift ..).bind (.shift ..) fun _ =>
    (shift ..).bind (.shift ..) fun _ => commit.bind .commit fun _ => (runIdle 1).bind (.runIdle 1) fun _ =>
    pure _)).congr fun q => ?_
  cases held : q.2.2.1 && q.2.2.2 == code with
  | true => simp [transactionCountOf, held, leaveCountOf, commitTms, phaseThen, enterTms]
  | false => simp [transactionCountOf, held, leaveCountOf, commitTms, phaseThen, enterTms, scanCount, chain]

/-- CheckedRead is three transactions on one code (R197). -/
theorem checkedRead : Counts p checkedRead fun q => transactionCountOf p.dapIrDpacc q + 84 :=
  (config ((transact chain ..).bind (.transact ..) fun _ => (transact chain ..).bind (.transact ..) fun _ =>
    (transact chain ..).bind (.transact ..) fun _ => (verify ..).bind (.verify ..) fun _ => pure _)).congr fun q => by
      simp [transactionCountOf_after]

section DistinctCodes

variable (codes : p.dapIrDpacc ≠ p.dapIrApacc)
include codes

/-- MemRead is two transactions on APACC and a CheckedRead (43_ap_memory.md R230). -/
theorem memRead (addr : Word) : Counts p (memRead addr) fun q => transactionCountOf p.dapIrApacc q + 184 :=
  (config ((transact chain ..).bind (.transact ..) fun _ => (transact chain ..).bind (.transact ..) fun _ =>
    checkedRead chain)).congr fun q => by simp [transactionCountOf_after, codes.symm]

/-- MemWrite is two transactions on APACC and a CheckedRead (R232). -/
theorem memWrite (addr value : Word) :
    Counts p (memWrite addr value) fun q => transactionCountOf p.dapIrApacc q + 184 :=
  (config ((transact chain ..).bind (.transact ..) fun _ => (transact chain ..).bind (.transact ..) fun _ =>
    (checkedRead chain).bind .checkedRead fun _ => pure _)).congr fun q => by
      simp [transactionCountOf_after, codes.symm]

/-- DapInit (R198): its IR scan invalidates the cache, and CheckedRead stays on the code of the transaction before it. -/
theorem dapInit : Counts p dapInit fun q => leaveCountOf q + 337 :=
  (config ((scan ..).bind (.scan ..) fun _ => (scan ..).bind (.scan ..) fun _ => (verify ..).bind (.verify ..) fun _ =>
    (transact chain ..).bind (.transact ..) fun _ => (checkedRead chain).bind .checkedRead fun _ =>
    (transact chain ..).bind (.transact ..) fun _ => (transact chain ..).bind (.transact ..) fun _ =>
    pure _)).congr fun q => by
      simp [transactionCountOf, leaveCountOf, commitTms, enterTms, scanCount, irValidAfter, chain, codes, Nat.add_assoc]

end DistinctCodes

end DefaultLengths

/-- One router word: two scans of 32 bits and the run cycles (R163). -/
theorem configureRouter (w : Word) (cycles : p.routerRunCycles = 10) :
    Counts p (configureRouter w) fun q => leaveCountOf q + 84 :=
  (config ((scan ..).bind (.scan ..) fun _ => (scan ..).bind (.scan ..) fun _ => (verify ..).bind (.verify ..) fun _ =>
    runIdle _)).congr fun q => by
      simp [leaveCountOf, commitTms, enterTms, scanCount, cycles, Nat.add_assoc]

theorem configureRouters (ws : List Word) (cycles : p.routerRunCycles = 10) :
    Counts p (configureRouters ws) fun q => if ws = [] then 0 else leaveCountOf q + 84 * ws.length := by
  induction ws with
  | nil => exact pure ()
  | cons w ws ih =>
    refine ((configureRouter w cycles).bind (.configureRouter w) fun _ => ih).congr fun q => ?_
    cases ws with
    | nil => rfl
    | cons _ _ =>
      simp [leaveCountOf, commitTms]
      omega

theorem identifyTap (check : p.checkTapIdcode = true) : Counts p identifyTap fun q => leaveCountOf q + 37 := by
  refine config ?_
  rw [if_pos check]
  exact (scan ..).bind (.scan ..) fun _ => verify ..

theorem connectIcepick (len : p.icepickIrLen = 6) : Counts p connectIcepick fun q => leaveCountOf q + 38 :=
  (config ((scan ..).bind (.scan ..) fun _ => (scan ..).bind (.scan ..) fun _ => (scan ..).bind (.scan ..) fun _ =>
    verify ..)).congr fun q => by
      simp [leaveCountOf, commitTms, enterTms, scanCount, len, Nat.add_assoc]

/-- Bring-up with its identification and two router words (41_icepick_bringup.md R160). -/
theorem icepickBringup (defaults : defaultCounts p = true) :
    Counts p icepickBringup fun q => leaveCountOf q + 277 := by
  obtain ⟨-, len, check, words, cycles, settle, -⟩ := defaultCounts_fields defaults
  have nonempty : p.routerWords ≠ [] := fun empty => by simp [empty] at words
  refine (config ((identifyTap check).bind .identifyTap fun _ => (connectIcepick len).bind .connectIcepick fun _ =>
    (scan ..).bind (.scan ..) fun _ => (configureRouters _ cycles).bind (.configureRouters _) fun _ =>
    (scan ..).bind (.scan ..) fun _ => runIdle _)).congr fun q => ?_
  simp [leaveCountOf, commitTms, enterTms, scanCount, check, len, words, settle, nonempty, Nat.add_assoc]

/-! ## Commands -/

theorem unit {m : Proc Unit} {n : Protocol → Nat} {g : Protocol → Protocol} (h : Counts p m n) (l : Leaves p m g) :
    Counts p (do m; return (none : Option Word)) n :=
  h.bind l fun _ => pure none

theorem value {m : Proc Word} {n : Protocol → Nat} {g : Protocol → Protocol} (h : Counts p m n) (l : Leaves p m g) :
    Counts p (do let r ← m; return some r) n :=
  h.bind l fun _ => pure _

end Counts

theorem scanCount_toNat (k : ScanKind) (nbits : BitVec 6) : scanCount k nbits.toNat =
    if nbits = 0 then (enterTms k).length + 3 else nbits.toNat + ((enterTms k).length + 2) := by
  by_cases h : nbits = 0
  · simp [scanCount, h]
  · have nonempty : nbits.toNat ≠ 0 := fun zero => h (BitVec.eq_of_toNat_eq zero)
    simp only [scanCount, if_neg h, if_neg nonempty]
    omega

/-- What each command's procedure counts is its row of the two tables (R133, R291). -/
theorem Counts.bodyOf {s : State} (defaults : defaultCounts s.params = true) (i : Instr) :
    ∃ n, Counts s.params (bodyOf s i) n ∧ n s.protocol = pulseCount s i := by
  obtain ⟨chain, -, -, -, -, -, codes⟩ := defaultCounts_fields defaults
  have leave := leaveCount_eq s
  have leaveThen (k : Nat) : leaveCountOf s.protocol + k = s.leaveCount + k := by rw [leave]
  cases i with
  | reset => exact ⟨_, tapReset.unit .tapReset, rfl⟩
  | commit => exact ⟨_, commit.unit .commit, leave.symm⟩
  | runIdle => exact ⟨_, (runIdle _).unit (.runIdle _), leaveThen _⟩
  | enterIr => exact ⟨_, (enter .ir).unit (.enter .ir), leaveThen 4⟩
  | enterDr => exact ⟨_, (enter .dr).unit (.enter .dr), leaveThen 3⟩
  | shift nbits last => exact ⟨_, (shift ..).value (.shift ..), rfl⟩
  | scanIr nbits => exact ⟨_, (scan ..).value (.scan ..), by rw [scanCount_toNat]; exact leaveThen _⟩
  | scanDr nbits => exact ⟨_, (scan ..).value (.scan ..), by rw [scanCount_toNat]; exact leaveThen _⟩
  | selectIr irCode =>
    refine ⟨_, (selectIr irCode).unit (.selectIr irCode), ?_⟩
    rw [chain, leaveThen]
    rfl
  | checkedRead => exact ⟨_, (checkedRead chain).value .checkedRead, transactionCountOf_add s _ 84⟩
  | icepickBringup => exact ⟨_, (icepickBringup defaults).unit .icepickBringup, leaveThen _⟩
  | dapInit => exact ⟨_, (dapInit chain codes).unit .dapInit, leaveThen _⟩
  | apRead => exact ⟨_, (memRead chain codes _).value (.memRead _), transactionCountOf_add s _ 184⟩
  | apWrite => exact ⟨_, (memWrite chain codes ..).unit (.memWrite ..), transactionCountOf_add s _ 184⟩
  | _ => exact ⟨_, (transact chain ..).value (.transact ..), (transactionCount_eq ..).symm⟩

theorem tckPulses_initPins (s : State) : tckPulses s.initPins.trace = tckPulses s.trace := by
  rw [initPins_trace]
  split <;> rfl

/-- Settles O54: a command that completes runs its procedure to the end. -/
theorem pulseCounts : Obligations.PulseCounts := by
  intro i s t hq _ defaults h unfaulted
  obtain ⟨r, u, run, rfl⟩ := exec_unfaulted hq h unfaulted
  obtain ⟨n, counts, row⟩ := Counts.bodyOf defaults i
  rw [complete_trace, counts.completing _ r u (initPins_params s) run, tckPulses_initPins, initPins_protocol, row]

end Sys2Proof.Machine
end

section
/-! ICEPICK_BRINGUP (41_icepick_bringup.md R160 to R165): where every check passes, and where each of them fails. -/

namespace Sys2Proof.Machine

/-! ## The procedure where a check fails -/

/-- Bring-up where the IDCODE does not match: nothing after its scan (R161, R165). -/
theorem icepickBringup_idcodeMismatch {s : State} (hq : s.quiet = true) (bad : s.idcodeOk = false) :
    icepickBringup s = .error .faulted (takeFault .tapIdcodeMismatch (s.scanValue .dr 32) (s.scanned .dr 32 0)) := by
  rw [icepickBringup, proc_bind_ok (config_run s), proc_bind_error (identifyTap_mismatch hq bad)]

/-- Bring-up where the connect nibble is not the key: nothing after the read-back scan (R162, R165). -/
theorem icepickBringup_connectMismatch {s : State} (hq : s.quiet = true) (id : s.idcodeOk = true)
    (bad : s.identified.connectOk = false) :
    icepickBringup s = .error .faulted
      (takeFault .connectMismatch (s.identified.connectWritten.scanValue .dr 8) s.identified.connected) := by
  rw [icepickBringup, proc_bind_ok (config_run s), proc_bind_ok (identifyTap_ok hq id),
    proc_bind_error (connectIcepick_mismatch (by simp [hq]) bad)]

/-- The router words after the first that does not read back are not written (R163, R165). -/
theorem configureRouters_mismatch {s : State} (hq : s.quiet = true) {done : List Word} {w : Word} (left : List Word)
    (ok : s.routersOk done = true) (bad : (done.foldl State.routerConfigured s).routerOk w = false) :
    configureRouters (done ++ w :: left) s = .error .faulted
      (takeFault .routerReadbackMismatch (((done.foldl State.routerConfigured s).routerWritten w).scanValue .dr 32)
        ((done.foldl State.routerConfigured s).routerReadBack w)) := by
  induction done generalizing s with
  | nil => exact proc_bind_error (configureRouter_mismatch hq w bad)
  | cons v done ih =>
    obtain ⟨first, rest⟩ := (Bool.and_eq_true _ _).mp ok
    exact (proc_bind_ok (configureRouter_ok hq v first)).trans (ih (by simp [hq]) rest bad)

/-- Bring-up where a router word does not read back: nothing after that word's read-back scan (R163, R165). -/
theorem icepickBringup_routerMismatch {s : State} (hq : s.quiet = true) {done : List Word} {w : Word}
    {left : List Word} (words : s.params.routerWords = done ++ w :: left) (id : s.idcodeOk = true)
    (key : s.identified.connectOk = true) (ok : s.atRouters.routersOk done = true)
    (bad : (done.foldl State.routerConfigured s.atRouters).routerOk w = false) :
    icepickBringup s = .error .faulted
      (takeFault .routerReadbackMismatch
        (((done.foldl State.routerConfigured s.atRouters).routerWritten w).scanValue .dr 32)
        ((done.foldl State.routerConfigured s.atRouters).routerReadBack w)) := by
  rw [icepickBringup, proc_bind_ok (config_run s), proc_bind_ok (identifyTap_ok hq id),
    proc_bind_ok (connectIcepick_ok (by simp [hq]) key), proc_bind_ok (scan_quiet (by simp [hq]) ..), words]
  exact proc_bind_error (configureRouters_mismatch (s := s.atRouters) (by simp [hq]) left ok bad)

/-! ## The command -/

@[simp] theorem broughtUp_quiet (s : State) : s.broughtUp.quiet = s.quiet := by simp [State.broughtUp]

/-- ICEPICK_BRINGUP has no operand check (R82). -/
theorem exec_icepickBringup (s : State) :
    exec .icepickBringup s = runCommand none (do icepickBringup; return none) s :=
  exec_wellFormed .icepickBringup rfl

theorem exec_icepickBringup_stopped {s t : State} {e : Stop} (run : icepickBringup s.initPins = .error e t) :
    exec .icepickBringup s = .next t :=
  (exec_icepickBringup s).trans (runCommand_error run)

/-- Settles O42: the procedure runs to its end and returns nothing. -/
theorem bringupCommand : Obligations.BringupCommand := by
  intro s hq id key routers
  have quiet : s.initPins.quiet = true := initPins_quiet hq
  have run : icepickBringup s.initPins = .ok () s.initPins.broughtUp :=
    icepickBringup_ok quiet id key (by rwa [initPins_params])
  exact (exec_icepickBringup s).trans (runCommand_unit run (by rw [broughtUp_quiet, quiet]))

/-- Settles O43: each failing check stops the procedure where its own lemma says. -/
theorem bringupMismatches : Obligations.BringupMismatches := by
  intro s hq
  have quiet : s.initPins.quiet = true := initPins_quiet hq
  refine ⟨fun bad => ?_, fun id bad => ?_, fun done w left words id key ok bad => ?_⟩
  · exact exec_icepickBringup_stopped (icepickBringup_idcodeMismatch quiet bad)
  · exact exec_icepickBringup_stopped (icepickBringup_connectMismatch quiet id bad)
  · have words' : s.initPins.params.routerWords = done ++ w :: left := by rw [initPins_params, words]
    exact exec_icepickBringup_stopped (icepickBringup_routerMismatch quiet words' id key ok bad)

end Sys2Proof.Machine
end

section
/-! SELECT_IR and the commands made of transactions (42_dap_engine.md R180 to R197; 43_ap_memory.md R230, R232): what each
leaves where its checks pass, and where the first of them fails. -/

namespace Sys2Proof.Machine

/-! ## SELECT_IR -/

theorem holdsIr_iff (s : State) (code : BitVec 4) : s.holdsIr code = true ↔ s.irValid = true ∧ s.irCache = code := by
  simp [State.holdsIr]

theorem holdsIr_eq_false_iff (s : State) (code : BitVec 4) :
    s.holdsIr code = false ↔ s.irValid = false ∨ s.irCache ≠ code := by
  rw [← Bool.not_eq_true, holdsIr_iff, not_and_or, Bool.not_eq_true]

@[simp] theorem holdsIr_initPins (s : State) (code : BitVec 4) : s.initPins.holdsIr code = s.holdsIr code := by
  simp [State.holdsIr]

/-- A SELECT_IR of an access code completes where its procedure does, and returns nothing (R180). -/
theorem exec_selectIr {s t : State} {code : BitVec 4} (access : s.params.isAccessIr code = true)
    (run : selectIr code s.initPins = .ok () t) (quiet : t.quiet = true) :
    exec (.selectIr code) s = .next (t.complete none) := by
  rw [exec_wellFormed (.selectIr code) access]
  exact runCommand_unit run quiet

/-- On a hit no pulse is made, and an open scan stays open (R180). -/
theorem exec_selectIr_hit {s : State} {code : BitVec 4} (hq : s.quiet = true)
    (access : s.params.isAccessIr code = true) (hit : s.holdsIr code = true) :
    exec (.selectIr code) s = .next (s.initPins.complete none) :=
  exec_selectIr access (selectIr_hit ((holdsIr_initPins s code).trans hit)) (initPins_quiet hq)

/-- On a miss the chain is scanned and the code cached (R180). -/
theorem exec_selectIr_miss {s : State} {code : BitVec 4} (hq : s.quiet = true)
    (access : s.params.isAccessIr code = true) (miss : s.holdsIr code = false) :
    exec (.selectIr code) s =
      .next ((s.initPins.at (s.selectPulses code) .idle .shift true code).complete none) := by
  have run := selectIr_miss (initPins_quiet hq) ((holdsIr_initPins s code).trans miss)
  rw [selectPulses_initPins] at run
  exact exec_selectIr access run (by simp [hq])

/-- The word of SELECT_IR as the spec writes it is its encoding (R80). -/
theorem encode_selectIr (code : BitVec 4) : encode (.selectIr code) = 0x09 ||| code.setWidth 32 <<< 11 := by
  simp [encode, commandWord, placed]

/-- Settles O32: the operand check, the hit and the miss. -/
theorem selectIrCommand : Obligations.SelectIrCommand := by
  intro s code hq
  refine ⟨?_, fun bad => ?_, fun access hit => ?_, fun access miss => ?_⟩
  · rw [← encode_selectIr]
    exact decodeOfEncode (.selectIr code)
  · exact exec_rejected (i := .selectIr code) (if_neg (by simp [bad]))
  · exact exec_selectIr_hit hq access ((holdsIr_iff s code).mpr hit)
  · have miss : s.holdsIr code = false := by rwa [← Bool.not_eq_true, holdsIr_iff]
    rw [exec_selectIr_miss hq access miss]
    simp [State.selectPulses, miss, State.at, State.complete, irChainBits, irChainWord]

/-- A SELECT_IR of an access code makes no pulse on a hit; on a miss it makes those of Commit and of the IR scan (R133,
R183). -/
theorem tckPulses_selectIr {s t : State} {code : BitVec 4} (hq : s.quiet = true)
    (access : s.params.isAccessIr code = true) (h : exec (.selectIr code) s = .next t) :
    tckPulses t.trace = tckPulses s.trace +
      if s.holdsIr code then 0 else s.leaveCount + scanCount .ir (irChainBits s.params) := by
  obtain ⟨u, run, quiet⟩ : ∃ u, selectIr code s.initPins = .ok () u ∧ u.quiet = true := by
    cases held : s.initPins.holdsIr code with
    | true => exact ⟨_, selectIr_hit held, initPins_quiet hq⟩
    | false => exact ⟨_, selectIr_miss (initPins_quiet hq) held, by simp [hq]⟩
  cases (exec_selectIr access run quiet).symm.trans h
  rw [complete_trace, (Counts.selectIr code).completing _ () u (initPins_params s) run, tckPulses_initPins,
    initPins_protocol, leaveCount_eq]
  rfl

/-- Settles O33: a hit adds no pulse, and the IR scan of a miss adds at least those of its enter pattern. -/
theorem irCacheLaw : Obligations.IrCacheLaw := by
  intro s t code hq access h
  rw [tckPulses_selectIr hq access h, ← holdsIr_eq_false_iff]
  cases held : s.holdsIr code with
  | true => simp
  | false => simp [scanCount, enterTms]

/-! ## TRANSACT -/

/-- Settles O34: TRANSACT is the one request of its operand fields. -/
theorem transactCommand : Obligations.TransactCommand := fun _ _ _ hq access ok =>
  exec_transact_ok hq access rfl ok

/-! ## The first ack that is not OK -/

/-- An element of two lists joined stands in the first of them, or past it in the second. -/
theorem split_of_append_eq {α : Type} {front back pre post : List α} {a : α} (h : front ++ back = pre ++ a :: post) :
    (∃ left, front = pre ++ a :: left) ∨ ∃ made, pre = front ++ made ∧ back = made ++ a :: post := by
  obtain ⟨made, past, later⟩ | ⟨_ | ⟨x, left⟩, stage, later⟩ := List.append_eq_append_iff.mp h
  · exact .inr ⟨made, past, later⟩
  · exact .inr ⟨[], by simp [stage], later.symm⟩
  · cases later
    exact .inl ⟨left, stage⟩

/-- The first ack that is not OK decides how a procedure made of transactions ends (R181, R243). -/
theorem TransactionsResult.eq_refused {α : Type} {s : State} {pre post : List Request} {r : Request} {Q : α → Prop}
    {res : EStateM.Result Stop State α} (h : TransactionsResult s (pre ++ r :: post) Q res)
    (acks : s.acksOk pre = true) (bad : (s.transactedAll pre).ackOk r = false) :
    res = .error .faulted ((s.transactedAll pre).ackRefused r) := by
  have notAll {later : List Request} : s.acksOk (pre ++ r :: later) ≠ true := fun all => by
    obtain ⟨-, ok⟩ := acksOk_split all
    simp [ok] at bad
  cases h with
  | completed all _ => exact absurd all notAll
  | mismatched _ all => exact absurd all notAll
  | @refused pre' post' r' split acks' bad' =>
    obtain ⟨later, longer⟩ | ⟨_ | ⟨x, made⟩, longer, same⟩ := split_of_append_eq split.symm
    · exact absurd (longer ▸ acks') notAll
    · cases same
      rw [longer, List.append_nil]
    · cases same
      obtain ⟨-, ok⟩ := acksOk_split (longer ▸ acks)
      simp [ok] at bad'

theorem eq_take_append_of_getElem? {α : Type} {l : List α} {k : Nat} {a : α} (h : l[k]? = some a) :
    l = l.take k ++ a :: l.drop (k + 1) := by
  obtain ⟨hk, rfl⟩ := List.getElem?_eq_some_iff.mp h
  rw [← List.drop_eq_getElem_cons, List.take_append_drop]

/-- Settles O36: the command's procedure is made of the requests, and its operand check passes. -/
theorem ackMismatchStops : Obligations.AckMismatchStops := by
  intro s i rs k r hq wf hr hk acks bad
  have made := bodyOf_transactions hq hr
  rw [eq_take_append_of_getElem? hk] at made
  rw [exec_wellFormed i wf]
  exact runCommand_stopped (made.eq_refused acks bad)

/-! ## CHECKED_READ and the commands that end in it -/

/-- Settles O37: the procedure runs to its end and returns the data of its first transaction. -/
theorem checkedReadCommand : Obligations.CheckedReadCommand := by
  intro s hq acks csw
  rw [← initPins_params s] at acks csw
  have run := checkedRead_ok (initPins_quiet hq) acks csw
  rw [initPins_params, dataOf_initPins] at run
  exact runCommand_value run (by simp [hq])

theorem transactedAll_append (s : State) (pre post : List Request) :
    s.transactedAll (pre ++ post) = (s.transactedAll pre).transactedAll post :=
  List.foldl_append

/-- A procedure that goes on after two transactions with OK acks. -/
theorem transact_two_ok {s : State} (hq : s.quiet = true) {q r : Request} (acks : s.acksOk [q, r] = true) {α : Type}
    (m : Proc α) :
    (do let _ ← transact q.ir q.op3 q.arg; let _ ← transact r.ir r.op3 r.arg; m : Proc α) s =
      m (s.transactedAll [q, r]) := by
  obtain ⟨first, second, -⟩ : s.ackOk q = true ∧ (s.transacted q).ackOk r = true ∧ True := by
    simpa [State.acksOk] using acks
  rw [proc_bind_ok (transact_ok hq q first), proc_bind_ok (transact_ok (by simp [hq]) r second)]
  rfl

/-- The commands that end in a CheckedRead, with the transactions each makes before it (R197, R230, R232). -/
theorem ends_in_checkedRead {s : State} {i : Instr} {before : List Request}
    (h : requestsOf s i = some (before ++ checkedReadRequests s.params)) :
    (i = .checkedRead ∧ before = []) ∨ (i = .apRead ∧ before = readRequests s.params s.a0) ∨
      (i = .apWrite ∧ before = writeRequests s.params s.a0 s.a1) := by
  cases i with
  | checkedRead => exact .inl ⟨rfl, by simpa [requestsOf] using h⟩
  | apRead => exact .inr (.inl ⟨rfl, List.append_cancel_right (Option.some.inj h).symm⟩)
  | apWrite => exact .inr (.inr ⟨rfl, List.append_cancel_right (Option.some.inj h).symm⟩)
  | reset | commit | runIdle | enterIr | enterDr | shift | scanIr | scanDr | selectIr | icepickBringup | dapInit =>
    cases h
  | _ =>
    have length := congrArg List.length (Option.some.inj h)
    simp [checkedReadRequests] at length

/-- Past the OK acks of its two transactions, MemRead is its CheckedRead (R230). -/
theorem memRead_of_acksOk {s : State} (hq : s.quiet = true) {addr : Word}
    (acks : s.acksOk (readRequests s.params addr) = true) :
    memRead addr s = checkedRead (s.transactedAll (readRequests s.params addr)) := by
  rw [memRead, proc_bind_ok (config_run s)]
  exact transact_two_ok hq acks checkedRead

/-- Past the OK acks of its two transactions, MemWrite is its CheckedRead, with the data dropped (R232). -/
theorem memWrite_of_acksOk {s : State} (hq : s.quiet = true) {addr value : Word}
    (acks : s.acksOk (writeRequests s.params addr value) = true) :
    memWrite addr value s =
      (checkedRead >>= fun _ => pure ()) (s.transactedAll (writeRequests s.params addr value)) := by
  rw [memWrite, proc_bind_ok (config_run s)]
  exact transact_two_ok hq acks (checkedRead >>= fun _ => pure ())

/-- Settles O38: the CheckedRead that each of the three commands ends in stops it. -/
theorem cswMismatchFaults : Obligations.CswMismatchFaults := by
  intro s i before hq hr acks csw
  have quiet : s.initPins.quiet = true := initPins_quiet hq
  have params : s.initPins.params = s.params := initPins_params s
  obtain ⟨earlier, checked⟩ := (Bool.and_eq_true _ _).mp ((acksOk_append ..).symm.trans acks)
  have stopped : checkedRead (s.initPins.transactedAll before) = .error .faulted
      (takeFault .cswStatusMismatch (s.initPins.transactedAll before).cswRead
        (s.initPins.transactedAll (before ++ checkedReadRequests s.params))) := by
    rw [checkedRead_mismatch (by simp [quiet]) (by simpa using checked) (by simpa using csw), transactedAll_params,
      params, transactedAll_append]
  obtain ⟨rfl, rfl⟩ | ⟨rfl, rfl⟩ | ⟨rfl, rfl⟩ := ends_in_checkedRead hr
  · exact runCommand_error stopped
  · have run := memRead_of_acksOk quiet (addr := s.a0) (by rwa [params])
    rw [params] at run
    exact runCommand_error (run.trans stopped)
  · have run := memWrite_of_acksOk quiet (addr := s.a0) (value := s.a1) (by rwa [params])
    rw [params] at run
    exact runCommand_error (run.trans (proc_bind_error stopped))

end Sys2Proof.Machine
end

section
/-! DAP_INIT (42_dap_engine.md R198): the IDCODE and its check, then two stages of transactions: the power-up write with
the CheckedRead that confirms it, and the two writes that select the AP and set it up. -/

namespace Sys2Proof.Machine

/-! ## The two stages after the IDCODE -/

/-- The power-up write and its CheckedRead (R198). -/
def powerUp (p : Params) : Proc Word := do
  let _ ← transact p.dapIrDpacc p.op3DpWriteCsw p.dpCtrlPowerup
  checkedRead

/-- The writes of DP SELECT and AP CSW (R198). -/
def selectAp (p : Params) : Proc Unit := do
  let _ ← transact p.dapIrDpacc p.op3DpWriteSelect p.dpSelectValue
  let _ ← transact p.dapIrApacc p.op3ApWriteCsw p.apCswValue
  return ()

/-- The first transaction of DAP_INIT. -/
def powerUpWrite (p : Params) : Request := ⟨p.dapIrDpacc, p.op3DpWriteCsw, p.dpCtrlPowerup⟩

/-- The transactions of DAP_INIT up to the one that reads the DP CSW. -/
def powerUpRequests (p : Params) : List Request := powerUpWrite p :: checkedReadRequests p

/-- The last two transactions of DAP_INIT. -/
def selectApRequests (p : Params) : List Request :=
  [⟨p.dapIrDpacc, p.op3DpWriteSelect, p.dpSelectValue⟩, ⟨p.dapIrApacc, p.op3ApWriteCsw, p.apCswValue⟩]

theorem initRequests_eq (p : Params) : initRequests p = powerUpRequests p ++ selectApRequests p := rfl

@[simp] theorem atDapIdcode_params (s : State) : s.atDapIdcode.params = s.params := by simp [State.atDapIdcode]

@[simp] theorem atDapIdcode_quiet (s : State) : s.atDapIdcode.quiet = s.quiet := by simp [State.atDapIdcode]

@[simp] theorem dapIdentified_params (s : State) : s.dapIdentified.params = s.params := by simp [State.dapIdentified]

@[simp] theorem dapIdentified_quiet (s : State) : s.dapIdentified.quiet = s.quiet := by simp [State.dapIdentified]

/-- With the expected IDCODE, DapInit goes on to its two stages (R198). -/
theorem dapInit_identified {s : State} (hq : s.quiet = true)
    (id : s.atDapIdcode.scanValue .dr 32 = s.params.dapIdcode) :
    dapInit s = (powerUp s.params >>= fun _ => selectAp s.params) s.dapIdentified := by
  rw [dapInit, proc_bind_ok (config_run s), proc_bind_ok (scan_quiet hq ..), ← State.atDapIdcode,
    proc_bind_ok (scan_quiet (by simp [hq]) ..), ← State.dapIdentified,
    proc_bind_ok (verify_pass (beq_iff_eq.mpr id) ..), powerUp, bind_assoc]
  rfl

/-- Any other IDCODE stops DapInit after its two scans (R198). -/
theorem dapInit_idcodeMismatch {s : State} (hq : s.quiet = true)
    (id : s.atDapIdcode.scanValue .dr 32 ≠ s.params.dapIdcode) :
    dapInit s = .error .faulted
      (takeFault .dapIdcodeMismatch (s.atDapIdcode.scanValue .dr 32) s.dapIdentified) := by
  rw [dapInit, proc_bind_ok (config_run s), proc_bind_ok (scan_quiet hq ..), ← State.atDapIdcode,
    proc_bind_ok (scan_quiet (by simp [hq]) ..), ← State.dapIdentified]
  exact proc_bind_error (verify_fail (beq_eq_false_iff_ne.mpr id) ..)

section Stages

variable {s : State} {p : Params} (hq : s.quiet = true) (hp : s.params = p)
include hq hp

/-- The first stage is made of its four transactions. -/
theorem TransactionsResult.powerUp :
    TransactionsResult s (powerUpRequests p) (fun _ => True) (powerUp p s) :=
  .bind hq (powerUpWrite p) (TransactionsResult.checkedRead (by simp [hq]) (by simp [hp])).anyValue

omit hp in
/-- The second stage is made of its two transactions. -/
theorem TransactionsResult.selectAp :
    TransactionsResult s (selectApRequests p) (fun _ => True) (selectAp p s) :=
  .bind hq ⟨_, _, _⟩ (.bind (by simp [hq]) ⟨_, _, _⟩ (.completed rfl trivial))

/-- Past the OK ack of the power-up write, the first stage is its CheckedRead. -/
theorem powerUp_of_acksOk (acks : s.acksOk (powerUpRequests p) = true) :
    powerUp p s = checkedRead (s.transacted (powerUpWrite p)) ∧
      (s.transacted (powerUpWrite p)).acksOk (checkedReadRequests (s.transacted (powerUpWrite p)).params) = true := by
  obtain ⟨first, others⟩ := Bool.and_eq_true_iff.mp acks
  exact ⟨proc_bind_ok (transact_ok hq (powerUpWrite p) first), by rwa [transacted_params, hp]⟩

/-- The first stage runs to its end where its acks and the DP CSW are as expected. -/
theorem powerUp_ok (acks : s.acksOk (powerUpRequests p) = true)
    (csw : (s.transacted (powerUpWrite p)).cswRead = p.cswExpect) :
    ∃ v, powerUp p s = .ok v (s.transactedAll (powerUpRequests p)) := by
  obtain ⟨run, others⟩ := powerUp_of_acksOk hq hp acks
  rw [run, checkedRead_ok (by simp [hq]) others (by simp [csw, hp]), transacted_params, hp]
  exact ⟨_, rfl⟩

/-- Past OK acks, any other DP CSW stops the first stage (R197). -/
theorem powerUp_mismatch (acks : s.acksOk (powerUpRequests p) = true)
    (csw : (s.transacted (powerUpWrite p)).cswRead ≠ p.cswExpect) :
    powerUp p s = .error .faulted (takeFault .cswStatusMismatch (s.transacted (powerUpWrite p)).cswRead
      (s.transactedAll (powerUpRequests p))) := by
  obtain ⟨run, others⟩ := powerUp_of_acksOk hq hp acks
  rw [run, checkedRead_mismatch (by simp [hq]) others (by simp [csw, hp]), transacted_params, hp]
  rfl

end Stages

/-- The second stage runs to its end where its acks are OK. -/
theorem selectAp_ok {s : State} {p : Params} (hq : s.quiet = true) (acks : s.acksOk (selectApRequests p) = true) :
    selectAp p s = .ok () (s.transactedAll (selectApRequests p)) :=
  transact_two_ok hq acks (pure ())

/-! ## The command -/

/-- DAP_INIT has no operand check (R82). -/
theorem exec_dapInit (s : State) : exec .dapInit s = runCommand none (do dapInit; return none) s :=
  exec_wellFormed .dapInit rfl

theorem exec_dapInit_stopped {s t : State} {e : Stop} (run : dapInit s.initPins = .error e t) :
    exec .dapInit s = .next t :=
  (exec_dapInit s).trans (runCommand_error run)

/-- Settles O40: the comparison after the two scans fails. -/
theorem dapIdcodeMismatch : Obligations.DapIdcodeMismatch := by
  intro s hq id
  exact exec_dapInit_stopped (dapInit_idcodeMismatch (initPins_quiet hq) (by rwa [initPins_params]))

/-- Settles O39: both stages run to their ends, and the command returns nothing. -/
theorem dapInitCommand : Obligations.DapInitCommand := by
  intro s hq id acks csw
  have quiet : s.initPins.quiet = true := initPins_quiet hq
  have params : s.initPins.params = s.params := initPins_params s
  rw [initRequests_eq, acksOk_append, Bool.and_eq_true] at acks
  obtain ⟨powerUpAcks, selectApAcks⟩ := acks
  obtain ⟨_, first⟩ := powerUp_ok (by simp [quiet]) (by simp) powerUpAcks csw
  have run := dapInit_identified quiet (by rw [params, id])
  rw [params, proc_bind_ok first, selectAp_ok (by simp [quiet]) selectApAcks, ← transactedAll_append,
    ← initRequests_eq] at run
  exact (exec_dapInit s).trans (runCommand_unit run (by simp [quiet]))

/-- The first ack that is not OK stops the stages, where the DP CSW, if read by then, was the expected one (R198). -/
theorem stages_refused {s : State} {p : Params} {pre post : List Request} {r : Request} (hq : s.quiet = true)
    (hp : s.params = p) (split : initRequests p = pre ++ r :: post) (acks : s.acksOk pre = true)
    (csw : 4 ≤ pre.length → (s.transacted (powerUpWrite p)).cswRead = p.cswExpect)
    (bad : (s.transactedAll pre).ackOk r = false) :
    (powerUp p >>= fun _ => selectAp p) s = .error .faulted ((s.transactedAll pre).ackRefused r) := by
  have first := TransactionsResult.powerUp hq hp
  obtain ⟨left, inFirst⟩ | ⟨made, rfl, inSecond⟩ := split_of_append_eq ((initRequests_eq p).symm.trans split)
  · rw [inFirst] at first
    exact proc_bind_error (first.eq_refused acks bad)
  · rw [acksOk_append, Bool.and_eq_true] at acks
    obtain ⟨powerUpAcks, selectApAcks⟩ := acks
    obtain ⟨_, run⟩ := powerUp_ok hq hp powerUpAcks (csw (by simp [powerUpRequests, checkedReadRequests]))
    have second := TransactionsResult.selectAp (s := s.transactedAll (powerUpRequests p)) (p := p) (by simp [hq])
    rw [inSecond] at second
    rw [transactedAll_append] at bad ⊢
    rw [proc_bind_ok run]
    exact second.eq_refused selectApAcks bad

/-- Settles O41: a transaction of either stage stops DapInit at its ack, and the DP CSW stops the first stage. -/
theorem dapInitStops : Obligations.DapInitStops := by
  intro s hq id
  have quiet : s.initPins.dapIdentified.quiet = true := by simp [hq]
  have params : s.initPins.dapIdentified.params = s.params := by simp
  have run := dapInit_identified (initPins_quiet hq) (by rw [initPins_params, id])
  rw [initPins_params] at run
  refine ⟨fun k r hk acks csw bad => ?_, fun acks csw => ?_⟩
  · have length : 4 ≤ ((initRequests s.params).take k).length → 4 ≤ k := by
      rw [List.length_take]
      omega
    exact exec_dapInit_stopped (run.trans
      (stages_refused quiet params (eq_take_append_of_getElem? hk) acks (csw ∘ length) bad))
  · exact exec_dapInit_stopped (run.trans (proc_bind_error (powerUp_mismatch quiet params acks csw)))

end Sys2Proof.Machine
end

section
/-! The AP memory commands where nothing fails (43_ap_memory.md R230, R232): two AP transactions, and the CheckedRead that
collects the data of the second and confirms it. -/

namespace Sys2Proof.Machine

section Procedures

variable {s : State} {p : Params} (hq : s.quiet = true) (hp : s.params = p)
include hq hp

/-- With OK acks throughout, a CheckedRead after the transactions `before` runs to its end where the DP CSW is the expected
one, and returns the data of the first transaction after `before` (R197). -/
theorem checkedRead_after {before : List Request} (acks : s.acksOk (before ++ checkedReadRequests p) = true)
    (csw : (s.transactedAll before).cswRead = p.cswExpect) :
    s.acksOk before = true ∧
      checkedRead (s.transactedAll before) = .ok ((s.transactedAll before).dataOf ⟨p.dapIrDpacc, p.op3DpNop, 0⟩)
        (s.transactedAll (before ++ checkedReadRequests p)) := by
  subst hp
  rw [acksOk_append, Bool.and_eq_true] at acks
  obtain ⟨earlier, checked⟩ := acks
  have run := checkedRead_ok (s := s.transactedAll before) (by simp [hq]) (by simpa using checked) (by simpa using csw)
  rw [transactedAll_params, ← transactedAll_append] at run
  exact ⟨earlier, run⟩

/-- MemRead, from its five transactions and its comparison (R230). -/
theorem memRead_ok {addr : Word} (acks : s.acksOk (readRequests p addr ++ checkedReadRequests p) = true)
    (csw : (s.transactedAll (readRequests p addr)).cswRead = p.cswExpect) :
    memRead addr s = .ok ((s.transactedAll (readRequests p addr)).dataOf ⟨p.dapIrDpacc, p.op3DpNop, 0⟩)
      (s.transactedAll (readRequests p addr ++ checkedReadRequests p)) := by
  obtain ⟨earlier, run⟩ := checkedRead_after hq hp acks csw
  subst hp
  exact (memRead_of_acksOk hq earlier).trans run

/-- MemWrite, from its five transactions and its comparison (R232). -/
theorem memWrite_ok {addr value : Word} (acks : s.acksOk (writeRequests p addr value ++ checkedReadRequests p) = true)
    (csw : (s.transactedAll (writeRequests p addr value)).cswRead = p.cswExpect) :
    memWrite addr value s = .ok () (s.transactedAll (writeRequests p addr value ++ checkedReadRequests p)) := by
  obtain ⟨earlier, run⟩ := checkedRead_after hq hp acks csw
  subst hp
  exact (memWrite_of_acksOk hq earlier).trans (proc_bind_ok run)

end Procedures

/-- Settles O44: MemRead runs to its end, and the command returns its value. -/
theorem apReadCommand : Obligations.ApReadCommand := by
  intro s hq acks csw
  have run := memRead_ok (initPins_quiet hq) (initPins_params s) acks csw
  exact (exec_wellFormed .apRead rfl).trans (runCommand_value run (by simp [hq]))

/-- Settles O45: MemWrite runs to its end, and the command returns nothing. -/
theorem apWriteCommand : Obligations.ApWriteCommand := by
  intro s hq acks csw
  have run := memWrite_ok (initPins_quiet hq) (initPins_params s) acks csw
  exact (exec_wellFormed .apWrite rfl).trans (runCommand_unit run (by simp [hq]))

end Sys2Proof.Machine
end

section
/-! A faulted block between steps (60_exceptions.md R244, R245): the host reaches its two argument registers and the
readable data, and nothing else. -/

namespace Sys2Proof.Machine

/-- Only a CMD write on a busy block sets OVERRUN (R30). -/
theorem writeRegister_overrun {s : State} (hb : s.busy = false) (offset v : Word) :
    (writeRegister offset v s).overrun = s.overrun := by
  have notLost : ¬(offset = 0x00 ∧ s.busy = true) := by simp [hb]
  unfold writeRegister
  rw [if_neg notLost]
  repeat' split
  all_goals rfl

theorem hostAccess_overrun {s : State} (hb : s.busy = false) (a : Access) : (hostAccess a s).overrun = s.overrun := by
  unfold hostAccess
  split
  next size address v =>
    split
    · exact writeRegister_overrun hb _ v
    · rfl
  next => split <;> rfl

/-- On a block that is not busy, an access that issues no command reaches ARG0, ARG1 and the data read alone (R29). -/
theorem hostAccess_idle {s : State} (hb : s.busy = false) (a : Access) :
    hostAccess a s = { s with
      arg0 := (hostAccess a s).arg0
      arg1 := (hostAccess a s).arg1
      responses := (hostAccess a s).responses } := by
  have side := hostAccess_eq a s
  rwa [State.withHostSide, hostAccess_overrun hb] at side

/-- Where the host has scheduled nothing, the block waits (R270). -/
theorem step_waits {s : State} (hp : s.params.inRange = true) (hs : s.host = []) : step s = .next s := by
  simp only [step, hp, if_true, nextEvent, hs]

/-- On a faulted block every access, a CMD write too, has its own effect alone (R244). -/
theorem step_access_faulted {s : State} {e : HostEvent} {a : Access} {rest : List HostEvent}
    (hp : s.params.inRange = true) (hf : s.fault = true) (hs : s.host = e :: rest) (ha : e.act = .access a) :
    step s = .next (hostAccess a { s with host := rest }) := by
  rw [step_event hp hs, ha]
  exact hostEvent_access (s := { s with host := rest }) fun _ _ _ _ _ _ _ => hf

/-- Settles O55: the block waits, or takes an access that issues no command and, not busy, sets no OVERRUN. -/
theorem faultIsSticky : Obligations.FaultIsSticky := by
  intro s t hp hf hb noReset h
  cases hs : s.host with
  | nil =>
    rw [step_waits hp hs] at h
    cases h
    rfl
  | cons e rest =>
    cases ha : e.act with
    | rst => exact absurd ha (noReset e rest hs)
    | access a =>
      rw [step_access_faulted hp hf hs ha] at h
      cases h
      rw [hostAccess_idle (s := { s with host := rest }) hb a]

end Sys2Proof.Machine
end

section
/-! Block reset and RESET (70_reset_and_hazards.md R270, R275): a block reset between commands and right after acceptance,
and what RESET's five pulses alone do to the target's controller. -/

namespace Sys2Proof.Machine

/-! ## Reset between commands -/

/-- Block reset is due at a landing point: it takes the block there, and the host is left with what is behind it (R270). -/
theorem hostSlot_reset {s : State} {rest : List HostEvent} (hs : s.host = ⟨.after 0, .rst⟩ :: rest) :
    hostSlot s = .error .abandoned (blockReset { s with host := rest }) := by
  simp only [hostSlot, hs, landEvents]

/-- A word that a reset meets right after its acceptance is not even decoded. -/
theorem issueCommand_reset {s : State} {rest : List HostEvent} (w : Word) (hs : s.host = ⟨.after 0, .rst⟩ :: rest) :
    issueCommand w s = .next (blockReset { s with host := rest }) := by
  rw [issueCommand, hostSlot_reset (s := s.accepted) hs]
  rfl

/-- Settles O18: the host's next event is the reset itself, or a CMD write whose first landing point it is due at. -/
theorem blockResetStep : Obligations.BlockResetStep := by
  rintro s tm w rest hp (hs | ⟨hs, hb, hf⟩)
  · exact step_event hp hs
  · calc step s
        = hostEvent (.access (.write .word s.params.blockBase w)) { s with host := ⟨.after 0, .rst⟩ :: rest } :=
          step_event hp hs
      _ = issueCommand w { s with host := ⟨.after 0, .rst⟩ :: rest } :=
          hostEvent_cmd (s := { s with host := ⟨.after 0, .rst⟩ :: rest }) hb hf w
      _ = .next (blockReset { s with host := rest }) := issueCommand_reset w rfl

/-! ## RESET without its TRST events -/

/-- TMS 1 for five pulses leads to Test-Logic-Reset from every state the table of R122 has a row for (R123). -/
theorem walk_five_ones {c : TapCtl} (h : ∀ k, c ≠ .pause k) :
    c.walk [true, true, true, true, true] = some .testLogicReset := by
  cases c with
  | pause k => exact absurd rfl (h k)
  | _ => rfl

/-- The pin events of pulses leave TRST alone (R121). -/
theorem pulsed_leaves_trst (s : State) (qs : List Pulse) :
    ∃ made, (s.pulsed qs).trace = made ++ s.trace ∧ .drive .trst false ∉ made := by
  induction qs generalizing s with
  | nil => exact ⟨[], rfl, List.not_mem_nil⟩
  | cons q qs ih =>
    obtain ⟨made, trace, untouched⟩ := ih (s.afterPulse q)
    refine ⟨made ++ pulseEvents q.1 q.2 s.nextTdo, ?_, ?_⟩
    · rw [pulsed_cons, trace, afterPulse_trace, List.append_assoc]
    · simp [untouched, pulseEvents]

/-- What the target sees where TRST is held high. -/
theorem filter_trst_low_eq_self {made : List PinEvent} (h : .drive .trst false ∉ made) :
    made.filter (fun e => e != .drive .trst false) = made :=
  List.filter_eq_self.mpr fun _ he => bne_iff_ne.mpr (ne_of_mem_of_not_mem he h)

/-- The initialise request is a pin event that the target does not see. -/
theorem initPins_unseen (s : State) : ∃ made, s.initPins.trace = made ++ s.trace ∧ .drive .trst false ∉ made ∧
    ∀ v : TapView, v.seeAll made = some v := by
  rw [initPins_trace]
  split
  · exact ⟨[], rfl, nofun, fun _ => rfl⟩
  · exact ⟨[.pinInit], rfl, by simp, fun _ => rfl⟩

/-- Settles O59: TRST low left out, the target sees five pulses with TMS 1 from where its controller is. -/
theorem resetRestoresAgreement : Obligations.ResetRestoresAgreement := by
  intro s v hq inTable
  obtain ⟨-, reset⟩ := resetCommand
  obtain ⟨first, initTrace, initHigh, unseen⟩ := initPins_unseen s
  obtain ⟨made, trace, high⟩ := pulsed_leaves_trst
    { s.initPins with pinTrst := true, trace := .drive .trst true :: .drive .trst false :: s.initPins.trace }
    (tmsPulses [true, true, true, true, true])
  obtain ⟨made', v', trace', seen, ctl⟩ := drives_pulsed (qs := tmsPulses [true, true, true, true, true])
    (walk_five_ones inTable) v rfl
  obtain rfl : made' = made := List.append_cancel_right (trace'.symm.trans trace)
  refine ⟨_, made' ++ [.drive .trst true, .drive .trst false] ++ first, v', reset s hq, ?_, ?_, ctl, ctl ▸ rfl⟩
  · refine trace.trans ?_
    rw [initTrace]
    simp
  · rw [List.filter_append, List.filter_append, filter_trst_low_eq_self high, filter_trst_low_eq_self initHigh, seeAll_append,
      unseen, Option.bind_some, seeAll_append]
    exact seen

end Sys2Proof.Machine
end

section
/-! Block reset inside a command (70_reset_and_hazards.md R270, 60_exceptions.md R253; log entry 4): a reset that is due at
a landing point takes the block in the state the pin events before that point have left, and no part of a command sees
what the host has scheduled behind a reset. -/

namespace Sys2Proof.Machine

/-! ## The pin events before a landing point -/

/-- From `s` to `t` the block makes these pin events, newest first, and takes one TDO sample for each of their pulses. -/
structure Makes (s : State) (made : List PinEvent) (t : State) : Prop where
  trace : t.trace = made ++ s.trace
  tdo : t.tdo = s.tdo.drop (tckPulses made)
  draws : t.draws = s.draws + (tckPulses made - s.tdo.length)

theorem Makes.of_no_pulse {s t : State} {made : List PinEvent} (trace : t.trace = made ++ s.trace)
    (none : tckPulses made = 0) (tdo : t.tdo = s.tdo) (draws : t.draws = s.draws) : Makes s made t where
  trace := trace
  tdo := by rw [none, tdo, List.drop_zero]
  draws := by rw [none, draws, Nat.zero_sub, Nat.add_zero]

theorem Makes.refl (s : State) : Makes s [] s := .of_no_pulse rfl rfl rfl rfl

theorem Makes.trans {s t u : State} {made made' : List PinEvent} (h : Makes s made t) (h' : Makes t made' u) :
    Makes s (made' ++ made) u where
  trace := by rw [h'.trace, h.trace, List.append_assoc]
  tdo := by rw [h'.tdo, h.tdo, List.drop_drop, tckPulses_append]
  draws := by
    rw [h'.draws, h.draws, h.tdo, List.length_drop, tckPulses_append]
    omega

theorem makes_afterPulse (s : State) (q : Pulse) : Makes s (pulseEvents q.1 q.2 s.nextTdo) (s.afterPulse q) where
  trace := rfl
  tdo := List.drop_one.symm
  draws := by
    have one : tckPulses (pulseEvents q.1 q.2 s.nextTdo) = 1 := rfl
    rw [afterPulse_draws, one]
    cases s.tdo <;> simp

theorem makes_initPins (s : State) : ∃ made, Makes s made s.initPins ∧ landingPoints made = 0 := by
  cases done : s.pinInitDone with
  | true => exact ⟨[], .of_no_pulse (by simp [done]) rfl (by simp) (by simp), rfl⟩
  | false => exact ⟨[.pinInit], .of_no_pulse (by simp [done]) rfl (by simp) (by simp), rfl⟩

/-- `early` is what a stretch of the trace has made before one of its landing points. -/
def CutAt (made early : List PinEvent) : Prop := ∃ later e, made = later ++ e :: early ∧ e.landsBefore = true

theorem CutAt.later {made early : List PinEvent} (h : CutAt made early) (more : List PinEvent) :
    CutAt (more ++ made) early := by
  obtain ⟨later, e, rfl, lands⟩ := h
  exact ⟨more ++ later, e, (List.append_assoc ..).symm, lands⟩

theorem CutAt.behind {made early : List PinEvent} (h : CutAt made early) (before : List PinEvent) :
    CutAt (made ++ before) (early ++ before) := by
  obtain ⟨later, e, rfl, lands⟩ := h
  exact ⟨later, e, List.append_assoc .., lands⟩

theorem CutAt.beginsAtLanding {made early : List PinEvent} (h : CutAt made early) :
    ∃ late, made = late ++ early ∧ beginsAtLanding late = true := by
  obtain ⟨later, e, rfl, lands⟩ := h
  exact ⟨later ++ [e], by simp, by simpa [Machine.beginsAtLanding] using lands⟩

/-! ## A reset at a landing point of a procedure -/

/-- A reset that is due after the landing points of `early` takes the block in a state on the way, which these pin events
have led to. -/
def ResetAfter {α : Type} (m : Proc α) (s : State) (early : List PinEvent) : Prop :=
  ∃ q, Makes s early q ∧ q.kept = s.kept ∧
    m (s.awaiting (landingPoints early) .rst s.host) = .error .abandoned (blockReset q)

theorem ResetAfter.bind {α β : Type} {m : Proc α} {s : State} {early : List PinEvent} (h : ResetAfter m s early)
    (f : α → Proc β) : ResetAfter (m >>= f) s early := by
  obtain ⟨q, makes, kept, run⟩ := h
  exact ⟨q, makes, kept, proc_bind_error run⟩

/-- A reset that is due behind the first of two procedures waits for the second. -/
theorem ResetAfter.after {p : Params} {α β : Type} {m : Proc α} {f : α → Proc β} {s u : State} {a : α}
    {made early : List PinEvent} (lands : Lands p m) (hq : s.quiet = true) (hp : s.params = p) (run : m s = .ok a u)
    (makes : Makes s made u) (kept : u.kept = s.kept) (h : ResetAfter (f a) u early) :
    ResetAfter (m >>= f) s (early ++ made) := by
  obtain ⟨q, makes', kept', stops⟩ := h
  obtain ⟨made', trace, waits, -⟩ := lands.landing s hq hp
  rw [run, stateOf_ok, makes.trace] at trace
  obtain rfl := List.append_cancel_right trace
  have first := waits (landingPoints (early ++ made)) .rst (by rw [landingPoints_append]; omega)
  rw [run, mapState_ok, landingPoints_append, Nat.add_sub_cancel_left] at first
  exact ⟨q, makes.trans makes', kept'.trans kept, by rw [landingPoints_append, proc_bind_ok first, stops]⟩

/-- At a landing point where nothing else is due, a reset takes the block as it is. -/
theorem ResetAfter.hostSlot (s : State) : ResetAfter hostSlot s [] := ⟨s, .refl s, rfl, hostSlot_reset rfl⟩

/-- A reset stops a procedure at each landing point of the pin events the procedure makes. -/
structure Abandons (p : Params) {α : Type} (m : Proc α) : Prop where
  landing : ∀ s, s.quiet = true → s.params = p → ∃ made, Makes s made (stateOf (m s)) ∧
    ∀ n < landingPoints made, ∃ early, CutAt made early ∧ landingPoints early = n ∧ ResetAfter m s early

namespace Abandons

variable {p : Params} {α β : Type}

/-- A procedure that makes no pin event has no landing point. -/
theorem still {m : Proc α} (h : ∀ s, Makes s [] (stateOf (m s))) : Abandons p m where
  landing s _ _ := ⟨[], h s, fun n hn => absurd hn (Nat.not_lt_zero n)⟩

/-- A landing point, the pin event right behind it, and others that have no landing point. -/
theorem slot {m : Proc α} {e : State → PinEvent} {later : State → List PinEvent}
    (makes : ∀ s, Makes s (later s ++ [e s]) (stateOf (m s))) (lands : ∀ s, (e s).landsBefore = true)
    (one : ∀ s, landingPoints (later s ++ [e s]) = 1) : Abandons p (hostSlot >>= fun _ => m) where
  landing s hq _ := by
    refine ⟨later s ++ [e s], by rw [proc_bind_ok (hostSlot_quiet hq)]; exact makes s, fun n hn => ?_⟩
    obtain rfl : n = 0 := Nat.lt_one_iff.mp (one s ▸ hn)
    exact ⟨[], ⟨later s, e s, rfl, lands s⟩, rfl, (ResetAfter.hostSlot s).bind _⟩

theorem bind {m : Proc α} {f : α → Proc β} (hm : Abandons p m) (lands : Lands p m) (frame : Framed p m)
    (hf : ∀ a, Abandons p (f a)) : Abandons p (m >>= f) where
  landing s hq hp := by
    obtain ⟨made, makes, stops⟩ := hm.landing s hq hp
    cases run : m s with
    | error e u =>
      rw [run, stateOf_error] at makes
      refine ⟨made, by rw [proc_bind_error run]; exact makes, fun n hn => ?_⟩
      obtain ⟨early, cut, points, reset⟩ := stops n hn
      exact ⟨early, cut, points, reset.bind f⟩
    | ok a u =>
      have kept := frame.ok s a u hq hp run
      obtain ⟨made', makes', stops'⟩ := (hf a).landing u (quiet_of_kept kept ▸ hq) (params_of_kept kept ▸ hp)
      rw [run, stateOf_ok] at makes
      refine ⟨made' ++ made, by rw [proc_bind_ok run]; exact makes.trans makes', fun n hn => ?_⟩
      rw [landingPoints_append] at hn
      by_cases inFirst : n < landingPoints made
      · obtain ⟨early, cut, points, reset⟩ := stops n inFirst
        exact ⟨early, cut.later made', points, reset.bind f⟩
      · obtain ⟨early, cut, points, reset⟩ := stops' (n - landingPoints made) (by omega)
        exact ⟨early ++ made, cut.behind made, by rw [landingPoints_append]; omega,
          .after lands hq hp run makes kept reset⟩

theorem trstEvent (level : Bool) : Abandons p (hostSlot >>= fun _ => setPin .trst level) :=
  slot (e := fun _ => .drive .trst level) (later := fun _ => []) (fun _ => .of_no_pulse rfl rfl rfl rfl)
    (fun _ => rfl) fun _ => rfl

end Abandons

theorem trstPulse_eq :
    trstPulse = (hostSlot >>= fun _ => setPin .trst false) >>= fun _ => hostSlot >>= fun _ => setPin .trst true := by
  simp only [trstPulse, bind_assoc]

theorem framed_trstEvent {p : Params} (level : Bool) : Framed p (hostSlot >>= fun _ => setPin .trst level) :=
  .of_run fun _ hq _ => ⟨_, _, (proc_bind_ok (hostSlot_quiet hq)).trans (setPin_run ..), kept_drive ..⟩

/-- A reset stops everything a command is made of at each of its landing points. -/
theorem Clocked.abandons {p : Params} {α : Type} {m : Proc α} (h : Clocked p m) : Abandons p m := by
  induction h with
  | pure a => exact .still Makes.refl
  | bind hm hf am af => exact am.bind hm.lands hm.framed af
  | look _ af =>
    constructor
    rintro s hq rfl
    exact (af s.protocol).landing s hq rfl
  | pulse tms tdi =>
    rw [pulse_eq]
    exact .slot (e := fun _ => .drive .tms tms)
      (later := fun s => [.drive .tck false, .sample s.nextTdo, .drive .tck true, .drive .tdi tdi])
      (fun s => makes_afterPulse s (tms, tdi)) (fun _ => rfl) fun _ => rfl
  | trst =>
    rw [trstPulse_eq]
    exact (Abandons.trstEvent false).bind (.trstEvent false) (framed_trstEvent false) fun _ => .trstEvent true
  | record _ => exact .still fun s => .of_no_pulse rfl rfl rfl rfl
  | raise v _ => exact .still fun s => .of_no_pulse rfl rfl rfl rfl

/-! ## A reset at a landing point of a command -/

/-- A reset that is due at the `n`-th landing point of a command making these pin events takes the block in a state on
the way, which the pin events before that point have led to (R253). -/
def AbandonedAt (i : Instr) (s : State) (made : List PinEvent) (n : Nat) : Prop :=
  ∃ early late q, made = late ++ early ∧ landingPoints early = n ∧ beginsAtLanding late = true ∧
    Makes s early q ∧ q.kept = s.kept ∧ exec i (s.awaiting n .rst s.host) = .next (blockReset q)

/-- A command whose cycle a reset stops ends there; the initialise request before its procedure has no landing point. -/
theorem abandonedAt_of_resetAfter {i : Instr} {s : State} {first early late : List PinEvent}
    (check : operandFault s.params i = none) (init : Makes s first s.initPins) (initPoints : landingPoints first = 0)
    (begins : beginsAtLanding late = true)
    (h : ResetAfter (bodyOf s i >>= fun r => hostSlot >>= fun _ => modify (State.complete r)) s.initPins early) :
    AbandonedAt i s ((late ++ early) ++ first) (landingPoints early) := by
  obtain ⟨q, makes, kept, run⟩ := h
  refine ⟨early ++ first, late, q, List.append_assoc .., by rw [landingPoints_append, initPoints, Nat.zero_add], begins,
    init.trans makes, kept.trans (kept_initPins s), ?_⟩
  have start (n : Nat) : (s.awaiting n .rst s.host).initPins = s.initPins.awaiting n .rst s.initPins.host := by
    rw [initPins_comm (σ := fun s' => s'.awaiting n .rst s.host) rfl rfl, initPins_host]
  rw [exec_accepted (s := s.awaiting _ .rst s.host) check, start,
    bodyOf_congr (s := s) (t := s.awaiting _ .rst s.host) rfl rfl rfl i, run, stateOf_error]

/-- A reset stops a command at each landing point of its procedure, and at the one before its completion where the
procedure runs to its end. -/
theorem abandonedAt_of_check {i : Instr} {s : State} (hq : s.quiet = true) (check : operandFault s.params i = none) :
    ∃ made, Makes s made (stateOf (bodyOf s i s.initPins)) ∧ (∀ n < landingPoints made, AbandonedAt i s made n) ∧
      ∀ r u, bodyOf s i s.initPins = .ok r u → AbandonedAt i s made (landingPoints made) := by
  obtain ⟨first, init, initPoints⟩ := makes_initPins s
  have clocked := (Sequenced.bodyOf check).clocked
  have quiet : s.initPins.quiet = true := by simp [hq]
  have params : s.initPins.params = s.params := initPins_params s
  obtain ⟨made, makes, stops⟩ := clocked.abandons.landing s.initPins quiet params
  have points : landingPoints (made ++ first) = landingPoints made := by
    rw [landingPoints_append, initPoints, Nat.zero_add]
  refine ⟨made ++ first, init.trans makes, fun n hn => ?_, fun r u run => ?_⟩
  · obtain ⟨early, cut, rfl, reset⟩ := stops n (points ▸ hn)
    obtain ⟨late, rfl, begins⟩ := cut.beginsAtLanding
    exact abandonedAt_of_resetAfter check init initPoints begins (reset.bind _)
  · rw [run, stateOf_ok] at makes
    have kept := clocked.framed.ok _ r u quiet params run
    have last := ResetAfter.after (f := fun r => hostSlot >>= fun _ => modify (State.complete r)) clocked.lands quiet
      params run makes kept ((ResetAfter.hostSlot u).bind _)
    rw [points]
    exact abandonedAt_of_resetAfter (late := []) check init initPoints rfl last

/-- Where a reset stops a quiet command on an unfaulted block, by the command's landing points (R253). -/
theorem exec_abandoned {i : Instr} {s u : State} {made : List PinEvent} {n : Nat} (hq : s.quiet = true)
    (hf : s.fault = false) (h : exec i s = .next u) (trace : u.trace = made ++ s.trace)
    (hn : n < commandPoints made u.fault) : AbandonedAt i s made n := by
  cases exec_outcome hq h with
  | rejected c v check after =>
    subst after
    obtain rfl : made = [] := List.self_eq_append_left.mp trace
    exact absurd hn (Nat.not_lt_zero n)
  | faulted c v w check run _ after =>
    obtain ⟨made', makes, stops, -⟩ := abandonedAt_of_check hq check
    rw [run, stateOf_error] at makes
    obtain rfl := List.append_cancel_right (trace.symm.trans makes.trace)
    rw [after] at hn
    exact stops n hn
  | completed r w check run kept after =>
    obtain ⟨made', makes, stops, last⟩ := abandonedAt_of_check hq check
    rw [run, stateOf_ok] at makes
    subst after
    obtain rfl := List.append_cancel_right (trace.symm.trans makes.trace)
    have unfaulted : w.fault = false := (congrArg State.fault kept :).trans hf
    rw [complete_fault, unfaulted] at hn
    obtain inBody | rfl := Nat.lt_succ_iff_lt_or_eq.mp hn
    · exact stops n inBody
    · exact last r w run

/-! ## What is scheduled behind a reset -/

/-- The state with more host events behind those scheduled. -/
def State.scheduling (more : List HostEvent) (s : State) : State := { s with host := s.host ++ more }

/-- No part of a command sees what the host has scheduled behind a reset, which abandons the command (R270). -/
theorem unseen_behind_reset (more : List HostEvent) :
    Unseen (fun s => ∃ n, s.host = [⟨.after n, .rst⟩]) (State.scheduling more) where
  host_only s t same hs := same ▸ hs
  slot s hs := by
    obtain ⟨n, host⟩ := hs
    cases n with
    | zero =>
      rw [hostSlot_reset host, hostSlot_reset (rest := more) (by rw [State.scheduling, host]; rfl)]
      rfl
    | succ n => simp only [hostSlot, State.scheduling, host, List.singleton_append, landEvents, mapState_ok]
  slot_keeps s x t hs h := by
    obtain ⟨n, host⟩ := hs
    cases n with
    | zero => cases (hostSlot_reset host).symm.trans h
    | succ n =>
      simp only [hostSlot, host, landEvents] at h
      cases h
      exact ⟨n, rfl⟩
  protocol _ := rfl
  params _ := rfl
  operands _ := ⟨rfl, rfl⟩
  nextTdo _ := rfl
  afterPulse _ _ := rfl
  drive s pin level := by cases pin <;> rfl
  recording _ _ := rfl
  takeFault _ _ _ := rfl
  initPins _ := initPins_comm (σ := State.scheduling more) rfl rfl
  complete _ _ := rfl

/-- The reset block shows the environment and the record that the pin events before the reset have led to (R270). -/
theorem blockReset_of_makes {s q : State} {early : List PinEvent} (makes : Makes s early q) (kept : q.kept = s.kept) :
    blockReset q = { State.reset with
      params := s.params, host := s.host, responses := s.responses
      tdo := s.tdo.drop (tckPulses early), draws := s.draws + (tckPulses early - s.tdo.length)
      trace := .latchReset :: (early ++ s.trace) } := by
  have host : q.host = s.host := (congrArg State.host kept :)
  have responses : q.responses = s.responses := (congrArg State.responses kept :)
  rw [blockReset, params_of_kept kept, host, responses, makes.trace, makes.tdo, makes.draws]

/-- Settles O19: with nothing scheduled behind it, the reset waits or stops the command at its landing point; what is
behind it changes neither. -/
theorem blockResetAbandonsTheCommand : Obligations.BlockResetAbandonsTheCommand := by
  intro i s n rest hf
  obtain ⟨u, h⟩ : ∃ u, exec i { s with host := [] } = .next u := ⟨_, exec_eq i _⟩
  obtain ⟨made, trace, waits, -⟩ := exec_landing (s := { s with host := [] }) rfl hf h
  have behind {t : State} (run : exec i (s.awaiting n .rst []) = .next t) :
      exec i (s.awaiting n .rst rest) = .next (t.scheduling rest) :=
    exec_ignores (unseen_behind_reset rest) i ⟨n, rfl⟩ run
  refine ⟨u, made, h, trace, fun hn => ?_, fun hn => ?_⟩
  · obtain ⟨-, host⟩ := (exec_outcome rfl h).host
    rw [behind (waits n .rst hn), host]
    rfl
  · obtain ⟨early, late, q, cut, points, begins, makes, kept, run⟩ :=
      exec_abandoned (s := { s with host := [] }) rfl hf h trace hn
    refine ⟨early, late, cut, points, begins, ?_⟩
    rw [behind run, blockReset_of_makes makes kept]
    rfl

end Sys2Proof.Machine
end
